-- ==== Sys2Proof/Word.lean ====
section
/-! DEFINITION. The word types of the block: 00_scope.md rules R9 and R10. -/

namespace Sys2Proof

/-- A 32-bit register, operand or counter (00_scope.md R9). -/
abbrev Word := BitVec 32

/-- A byte, as the host port presents a register (20_memory.md R63). -/
abbrev Byte := BitVec 8

/-- A slot number: the SLOT field and an index entry are 8 bits wide (00_scope.md R9, 30_encoding.md R92). -/
abbrev SlotNo := BitVec 8

/-- A byte offset in the 4096-byte host port window (20_memory.md R61). -/
abbrev Offset := BitVec 12

/-- One channel sample, 16-bit two's complement (20_memory.md R64). -/
abbrev Sample := BitVec 16

end Sys2Proof
end

