-- ==== Sys2Proof/Config.lean ====
section
/-! DEFINITION. What an implementation fixes: the parameters of 00_scope.md R8 and the numbers that rule calls
normative. -/

namespace Sys2Proof

/-- The parameters of 00_scope.md R8 whose value the spec gives as a default that "a model may replace". They are
"constant state" (10_state.md R35): a state carries them and no step writes them (log 10). -/
structure Params where
  /-- QTABLE, the quarter-wave table (41_synthesizer.md R163). -/
  qtable : List Int
  /-- ENV_STEP, the envelope's rise per sample (42_mixer.md R172). -/
  envStep : Nat
  /-- OUT_GAIN_Q8, the output gain, 256 standing for 1.0 (42_mixer.md R180). -/
  outGainQ8 : Nat
  /-- DITHER_MASK (42_mixer.md R182). -/
  ditherMask : Word
  /-- DITHER_SEED (42_mixer.md R181). -/
  ditherSeed : Word
  /-- TICK_HZ (44_pacing.md R204). -/
  tickHz : Nat
  /-- FULL_PCT (44_pacing.md R206). -/
  fullPct : Nat
  /-- LOW_PCT (44_pacing.md R207). -/
  lowPct : Nat
  /-- EMPTY_PCT (44_pacing.md R208). -/
  emptyPct : Nat
  /-- BURST_FRAMES (44_pacing.md R209). -/
  burstFrames : Nat
  /-- SR_MIN (45_system.md R241). -/
  srMin : Nat
  /-- SR_MAX (45_system.md R241). -/
  srMax : Nat
  /-- FREQ_COMP_Q16, 0x10000 standing for 1.0 (40_oscillator_bank.md R122). -/
  freqCompQ16 : Nat
  /-- FADE_LEN, the fade-out window in samples (42_mixer.md R173; 93_implementation_defined.md X8). -/
  fadeLen : Nat
  /-- NO_SLOT, the "no free slot" sentinel (40_oscillator_bank.md R120, 10_state.md R42). -/
  noSlot : Word
  deriving DecidableEq, Repr

namespace Config

/-- QTABLE_LEN (00_scope.md R8). -/
abbrev qtableLen : Nat := 64
/-- ENV_MAX (00_scope.md R8). -/
abbrev envMax : Nat := 256
/-- FRAME_BYTES (00_scope.md R8). -/
abbrev frameBytes : Nat := 4
/-- ACC_SCALE (00_scope.md R8). -/
abbrev accScale : Nat := 1000
/-- BIT_DEPTH (00_scope.md R8). -/
abbrev bitDepth : Nat := 16
/-- The RESULT of every rejected command (00_scope.md R13). -/
abbrev rejectResult : Word := 0xFFFFFFFF#32
/-- The largest legal N_SLOTS (00_scope.md R8). -/
abbrev maxSlots : Nat := 255

end Config

end Sys2Proof
end

