-- ==== Sys2Proof/Syntax.lean ====
section
/-! DEFINITION. The operations of the block, one constructor per row of spec/opcode_table.json
(30_encoding.md R94). -/

namespace Sys2Proof

/-- The nine commands of OSCB-CMD version 1 and the tick event. The operands other than SLOT stand in ARG0..ARG3
(30_encoding.md R93), so they are no part of the syntax. -/
inductive Instr where
  /-- NOP, opcode 0x00 (45_system.md R231). -/
  | nop
  /-- INIT, opcode 0x01 (45_system.md R240). -/
  | init
  /-- PLAY, opcode 0x02 (40_oscillator_bank.md R117). -/
  | play
  /-- PLAY_CH, opcode 0x03 (40_oscillator_bank.md R121). -/
  | playCh (slot : SlotNo)
  /-- STOP, opcode 0x04 (40_oscillator_bank.md R124). -/
  | stop (slot : SlotNo)
  /-- STOP_ALL, opcode 0x05 (40_oscillator_bank.md R128). -/
  | stopAll
  /-- CANCEL, opcode 0x06 (40_oscillator_bank.md R131). -/
  | cancel (slot : SlotNo)
  /-- UPDATE, opcode 0x07 (40_oscillator_bank.md R134). -/
  | update
  /-- DIAG_SNAP, opcode 0x08 (45_system.md R250). -/
  | diagSnap
  /-- TICK, the event a pulse on the tick input causes; it has no command word (30_encoding.md R94,
  44_pacing.md R202). -/
  | tick
  deriving DecidableEq, Repr

end Sys2Proof
end

