-- ==== Sys2Proof/WellFormed.lean ====
section
/-! DEFINITION. Which operations a command word can carry, and which parameters are legal. -/

namespace Sys2Proof

/-- The operation has a command word: every row of 30_encoding.md R95; TICK has none (R94). Every 8-bit SLOT is
well formed, since R96 checks its range only when the command runs. -/
def Instr.wellFormed : Instr → Bool
  | .nop | .init | .play | .playCh _ | .stop _ | .stopAll | .cancel _ | .update | .diagSnap => true
  | .tick => false

/-- The parameters are legal: a table of QTABLE_LEN signed 16-bit values whose negations are signed 16-bit values
too (41_synthesizer.md R159), a tick rate, a nonzero dither seed (42_mixer.md R181), a fade window that CAPS can show
(10_state.md R38), and the sample-rate range in which "sr * 1000" stays inside 32 bits and one millisecond is at least
one sample (45_system.md R241). -/
def Params.legal (p : Params) : Bool :=
  p.qtable.length == Config.qtableLen
    && p.qtable.all (fun q => decide (-32767 ≤ q ∧ q ≤ 32767))
    && decide (0 < p.tickHz)
    && p.ditherSeed != 0
    && decide (1000 ≤ p.srMin)
    && decide (p.srMin ≤ p.srMax)
    && decide (p.srMax ≤ 4294967)
    && decide (0 < p.fadeLen)
    && decide (p.fadeLen ≤ 255)

end Sys2Proof
end

