-- ==== Sys2Proof/Decode.lean ====
section
/-! DEFINITION. The decoder and the encoder of command words: 30_encoding.md R92, R94 to R97. -/

namespace Sys2Proof

/-- Why a command word is illegal, before any state is looked at (30_encoding.md R96, steps 1 and 2). -/
inductive DecodeError where
  /-- BAD_OPCODE: OPC is 0x09..0xFF. -/
  | badOpcode
  /-- RESERVED: a nonzero RSV field, or a nonzero SLOT field on an opcode that takes no slot. -/
  | reserved
  deriving DecidableEq, Repr

/-- OPC, bits [7:0] (30_encoding.md R92). -/
def opcField (w : Word) : Byte := w.extractLsb' 0 8

/-- SLOT, bits [15:8] (30_encoding.md R92). -/
def slotField (w : Word) : SlotNo := w.extractLsb' 8 8

/-- RSV, bits [31:16] (30_encoding.md R92). -/
def rsvField (w : Word) : BitVec 16 := w.extractLsb' 16 16

/-- A word of an opcode without a slot: RSV and SLOT must be 0 (30_encoding.md R96, step 2). -/
def slotless (i : Instr) (w : Word) : Except DecodeError Instr :=
  if rsvField w = 0 ∧ slotField w = 0 then .ok i else .error .reserved

/-- A word of an opcode with a slot: RSV must be 0 (30_encoding.md R96, step 2). -/
def slotted (i : SlotNo → Instr) (w : Word) : Except DecodeError Instr :=
  if rsvField w = 0 then .ok (i (slotField w)) else .error .reserved

/-- Steps 1 and 2 of the decode order of 30_encoding.md R96 over the opcode map R94. -/
def decode (w : Word) : Except DecodeError Instr :=
  match (opcField w).toNat with
  | 0 => slotless .nop w
  | 1 => slotless .init w
  | 2 => slotless .play w
  | 3 => slotted .playCh w
  | 4 => slotted .stop w
  | 5 => slotless .stopAll w
  | 6 => slotted .cancel w
  | 7 => slotless .update w
  | 8 => slotless .diagSnap w
  | _ => .error .badOpcode

/-- The four bytes of a word as the port presents it, the first at the lowest offset (20_memory.md R63). -/
def bytesOfWord (w : Word) : List Byte :=
  [w.extractLsb' 0 8, w.extractLsb' 8 8, w.extractLsb' 16 8, w.extractLsb' 24 8]

/-- The word four port bytes stand for (20_memory.md R63); no other number of bytes is a word. -/
def wordOfBytes : List Byte → Option Word
  | [b0, b1, b2, b3] => some (b3 ++ b2 ++ b1 ++ b0)
  | _ => none

/-- The decoder over the bytes of the port: none for a partial word or an illegal one. -/
def decodeBytes (bs : List Byte) : Option Instr :=
  match wordOfBytes bs with
  | some w => (decode w).toOption
  | none => none

/-- The bits `w` of an instruction of `nbits` bits, numbered as the opcode table numbers them; the bits above are
zero. A command is one 32-bit word (30_encoding.md R92), so a longer bit string with a bit set above 31 is none. -/
def tableWord (nbits w : Nat) : Option Word :=
  if w % 2 ^ nbits < 2 ^ 32 then some (BitVec.ofNat 32 (w % 2 ^ nbits)) else none

/-- The instruction the decoder reads from the bytes of a table word. -/
def decodeTableWord (nbits w : Nat) : Option Instr :=
  match tableWord nbits w with
  | some v => decodeBytes (bytesOfWord v)
  | none => none

/-- A command word from its SLOT and OPC fields, RSV being 0 (30_encoding.md R92). -/
def commandWord (slot : SlotNo) (opc : Byte) : Word := 0#16 ++ slot ++ opc

/-- The word of an operation (30_encoding.md R95); TICK has none. -/
def encode : Instr → Option Word
  | .nop => some (commandWord 0 0x00)
  | .init => some (commandWord 0 0x01)
  | .play => some (commandWord 0 0x02)
  | .playCh s => some (commandWord s 0x03)
  | .stop s => some (commandWord s 0x04)
  | .stopAll => some (commandWord 0 0x05)
  | .cancel s => some (commandWord s 0x06)
  | .update => some (commandWord 0 0x07)
  | .diagSnap => some (commandWord 0 0x08)
  | .tick => none

/-- The match and the mask of every row of the pattern table (30_encoding.md R95), in its order. -/
def patternTable : List (Word × Word) :=
  [(0x00000000, 0xFFFFFFFF), (0x00000001, 0xFFFFFFFF), (0x00000002, 0xFFFFFFFF), (0x00000003, 0xFFFF00FF),
   (0x00000004, 0xFFFF00FF), (0x00000005, 0xFFFFFFFF), (0x00000006, 0xFFFF00FF), (0x00000007, 0xFFFFFFFF),
   (0x00000008, 0xFFFFFFFF)]

/-- A word fits a row of the pattern table. -/
def matchesRow (w : Word) (row : Word × Word) : Bool := w &&& row.2 == row.1

end Sys2Proof
end

