-- ==== Sys2Proof/Machine/Arith.lean ====
section
/-! DEFINITION. The arithmetic of the spec's notation: 00_scope.md R10, R11. -/

namespace Sys2Proof.Machine

/-- `asr(v, n)`: the greatest integer not above v / 2^n (00_scope.md R11). -/
def asr (v : Int) (n : Nat) : Int := Int.fdiv v (2 ^ n)

/-- `trunc_div(a, b)`: a / b rounded toward zero (00_scope.md R11). -/
def truncDiv (a b : Int) : Int := Int.tdiv a b

/-- `round_half_up(a, b)` (00_scope.md R11). -/
def roundHalfUp (a b : Nat) : Nat := (2 * a + b) / (2 * b)

/-- `clamp(v, lo, hi)` (00_scope.md R11). -/
def clamp (v lo hi : Int) : Int := min (max v lo) hi

/-- `u32(v)` for a non-negative v (00_scope.md R11). -/
def u32 (v : Nat) : Word := BitVec.ofNat 32 v

/-- The value fits 32 bits, the test `v > 0xFFFFFFFF` of 40_oscillator_bank.md R111 turned round. -/
def fitsWord (v : Nat) : Bool := decide (v ≤ 0xFFFFFFFF)

/-- `zext_32(b)` of one bit (00_scope.md R11). -/
def bit (b : Bool) : Word := if b then 1#32 else 0#32

end Sys2Proof.Machine
end

