-- ==== Sys2Proof/Machine/Defaults.lean ====
section
/-! DEFINITION. The default value of every parameter: 00_scope.md R8, 41_synthesizer.md R163. -/

namespace Sys2Proof.Machine

/-- QTABLE's default contents (41_synthesizer.md R163). -/
def defaultQtable : List Int :=
  [0, 804, 1608, 2410, 3212, 4011, 4808, 5602]
  ++ [6393, 7179, 7962, 8739, 9512, 10278, 11039, 11793]
  ++ [12539, 13279, 14010, 14732, 15446, 16151, 16846, 17530]
  ++ [18204, 18868, 19519, 20159, 20787, 21403, 22005, 22594]
  ++ [23170, 23731, 24279, 24811, 25329, 25832, 26319, 26790]
  ++ [27245, 27683, 28105, 28510, 28898, 29268, 29621, 29956]
  ++ [30273, 30571, 30852, 31113, 31356, 31580, 31785, 31971]
  ++ [32137, 32285, 32412, 32521, 32609, 32678, 32728, 32757]

/-- The default of every parameter (00_scope.md R8). -/
def defaultParams : Params where
  qtable := defaultQtable
  envStep := 4
  outGainQ8 := 256
  ditherMask := 1#32
  ditherSeed := 0x92D68CA2#32
  tickHz := 2000
  fullPct := 70
  lowPct := 30
  emptyPct := 85
  burstFrames := 40
  srMin := 1000
  srMax := 192000
  freqCompQ16 := 0x00010000
  fadeLen := 64
  noSlot := 0xFFFFFFFF#32

/-- N_SLOTS's default (00_scope.md R8). -/
def defaultSlots : Nat := 8

end Sys2Proof.Machine
end

