-- ==== Sys2Proof/Machine/State.lean ====
section
/-! DEFINITION. The state: the block's own (10_state.md R21 to R35), its constant state (R35), and the outside world
it is run against (R36, 20_memory.md R79 to R84), all plain data. -/

namespace Sys2Proof.Machine

/-- One oscillator slot (10_state.md R24). -/
structure Slot where
  /-- The phase accumulator (R24, R25). -/
  phase : Word
  /-- The phase increment (R24). -/
  inc : Word
  /-- The amplitude, 0..255 (R24). -/
  amp : BitVec 8
  /-- The envelope, a 9-bit value in 0..256 (R24, 00_scope.md R9). -/
  env : BitVec 9
  /-- The duration in samples; 0 is indefinite (R24). -/
  dur : Word
  /-- The samples played since activation (R24). -/
  played : Word
  /-- The deadline of a deferred activation (R24). -/
  startMs : Word
  /-- The slot contributes to the output (R24). -/
  active : Bool
  /-- The slot is armed for a later activation (R24). -/
  scheduled : Bool
  deriving DecidableEq, Repr

/-- A slot at reset: every field 0 (10_state.md R24). -/
def Slot.zero : Slot :=
  { phase := 0, inc := 0, amp := 0, env := 0, dur := 0, played := 0, startMs := 0, active := false,
    scheduled := false }

/-- The four diagnostic counters, or their snapshot (10_state.md R32). -/
structure Counters where
  /-- Timer invocations. -/
  ticks : Word
  /-- Buffer-full skips. -/
  skips : Word
  /-- Buffer-empty events. -/
  underruns : Word
  /-- Emergency-recovery writes. -/
  recovery : Word
  deriving DecidableEq, Repr

/-- Every counter 0 (10_state.md R32). -/
def Counters.zero : Counters := { ticks := 0, skips := 0, underruns := 0, recovery := 0 }

/-- The width of a host access (20_memory.md R65). -/
inductive Width where
  /-- 8 bits. -/
  | byte
  /-- 16 bits. -/
  | half
  /-- 32 bits, the only width of the interface. -/
  | word
  deriving DecidableEq, Repr

/-- What happens next around the block: a host access, or an event of the environment (30_encoding.md R98). -/
inductive Action where
  /-- `wr OFF, V`: a host write. -/
  | wr (width : Width) (off : Offset) (v : Word)
  /-- `rd OFF`: a host read. -/
  | rd (width : Width) (off : Offset)
  /-- The arrival of `@tick`: one pulse on the tick input (44_pacing.md R201). -/
  | tickPulse
  /-- `@now T`. -/
  | now (t : Word)
  /-- `@free B` (log 18). -/
  | free (b : Word)
  /-- `@begin OK, CAP`; `free`, where it is given, is the transport's free space after its bring-up (log 5). -/
  | begin (ok : Bool) (cap : Word) (free : Option Word)
  /-- `@timer OK`. -/
  | timer (ok : Bool)
  /-- The consumer's draws for the coming space queries (20_memory.md R80; the model's own action, log 4). -/
  | frees (ds : List Word)
  /-- A pulse on the reset input (70_reset_and_hazards.md R290). Where a tick is pending it lands in that tick's step,
  after `calls` of the step's calls on its collaborators; where none is, it lands between steps (log 3). -/
  | resetPulse (calls : Nat)
  /-- A host write of `w` to CMD and a pulse on the reset input during its command, after `calls` of the command's
  calls on its collaborators (70_reset_and_hazards.md R290, log 3). -/
  | cutCommand (w : Word) (calls : Nat)
  deriving DecidableEq, Repr

/-- A call the block makes on a collaborator (20_memory.md R79). -/
inductive PortCall where
  /-- `TpAvail()`, a space query of a tick step or of the polling drain (log 15). -/
  | tpAvail
  /-- `TpWrite(s)`. -/
  | tpWrite (v : Sample)
  /-- `TpBegin(sr, req)`. -/
  | tpBegin (sr req : Word)
  /-- `TmRegister(period_us)`. -/
  | tmRegister (period : Word)
  deriving DecidableEq, Repr

/-- The world around the block (10_state.md R36): the model's own fields, none of them state of the block. -/
structure Env where
  /-- `Now()` (20_memory.md R83). -/
  now : Word
  /-- The transport's capacity (20_memory.md R80). -/
  tpCap : Word
  /-- The transport's free space as it was last set or left; `tp_free` itself, `Env.space`, is never above the capacity
  (20_memory.md R80, log 18). -/
  tpFree : Word
  /-- The bytes the consumer frees before each of the coming space queries; none left, nothing freed (log 4). -/
  frees : List Word
  /-- Whether the next TpBegin answers ok (20_memory.md R81). -/
  beginOk : Bool
  /-- The capacity the next TpBegin answers. -/
  beginCap : Word
  /-- The free space the next TpBegin leaves, where it sets one (log 5). -/
  beginFree : Option Word
  /-- Whether the next TmRegister answers ok (20_memory.md R82). -/
  timerOk : Bool
  /-- The actions still to come, the next one first (log 1). -/
  program : List Action
  /-- The block's calls on its collaborators, the newest first (log 15). -/
  calls : List PortCall
  /-- The values the host read, each with its offset, the newest first (30_encoding.md R98, log 15). -/
  reads : List (Offset × Word)
  deriving DecidableEq, Repr

/-- The whole state. -/
structure State where
  /-- The constant state: the parameters (10_state.md R35). -/
  cfg : Params
  /-- The bank; its length is N_SLOTS (10_state.md R23). -/
  slots : List Slot
  /-- `idx.entry` (10_state.md R30). -/
  idxEntry : List SlotNo
  /-- `idx.count` (10_state.md R30). -/
  idxCount : BitVec 8
  /-- `init_ok` (10_state.md R32). -/
  initOk : Bool
  /-- `poll` (10_state.md R32). -/
  poll : Bool
  /-- `sr` (10_state.md R32). -/
  sr : Word
  /-- `cap` (10_state.md R32). -/
  cap : Word
  /-- `start_ms_engine` (10_state.md R32). -/
  startMsEngine : Word
  /-- `acc_inc` (10_state.md R32). -/
  accInc : Word
  /-- `acc` (10_state.md R32). -/
  acc : Word
  /-- `rng` (10_state.md R32). -/
  rng : Word
  /-- `diag_ticks`, `diag_skips`, `diag_underruns`, `diag_recovery` (10_state.md R32). -/
  diag : Counters
  /-- `snap_ticks`, `snap_skips`, `snap_underruns`, `snap_recovery` (10_state.md R32). -/
  snap : Counters
  /-- `err` (10_state.md R32, 60_exceptions.md R262). -/
  err : BitVec 4
  /-- `result` (10_state.md R32). -/
  result : Word
  /-- `arg[0]` (10_state.md R21). -/
  arg0 : Word
  /-- `arg[1]` (10_state.md R21). -/
  arg1 : Word
  /-- `arg[2]` (10_state.md R21). -/
  arg2 : Word
  /-- `arg[3]` (10_state.md R21). -/
  arg3 : Word
  /-- `tick_pending` (44_pacing.md R201). -/
  tickPending : Bool
  /-- The world around the block. -/
  env : Env
  deriving DecidableEq, Repr

/-- N_SLOTS (10_state.md R23). -/
abbrev State.nSlots (s : State) : Nat := s.slots.length

/-- The block raises no trap and nothing stops it (60_exceptions.md R261): no step faults (log 20). -/
inductive Fault where
  deriving DecidableEq, Repr

/-- The steps the model has no transition for. -/
inductive Refusal where
  /-- An operation without a meaning in this model; none is left. Safe. -/
  | notModelled (mnemonic : String)
  /-- A host access that is not 32 bits wide or not at a multiple of 4, raised by the host access operations: "A
  model refuses such an access" (20_memory.md R65, 93_implementation_defined.md X13; log 8). Safe. -/
  | badAccess
  /-- A TpWrite with fewer than 2 free bytes, which the block never makes (93_implementation_defined.md X2; log 9),
  raised by TICK's and UPDATE's meanings on a path no state takes. Safe. -/
  | transportOverrun
  deriving DecidableEq, Repr

/-- The outcome of one step of the block. -/
abbrev Out := Host.Outcome State Fault Refusal

/-- The world right after reset: nothing has happened yet (DESIGN CHOICE, log 7). -/
def Env.reset : Env where
  now := 0
  tpCap := 0
  tpFree := 0
  frees := []
  beginOk := false
  beginCap := 0
  beginFree := none
  timerOk := false
  program := []
  calls := []
  reads := []

/-- The machine right after reset (70_reset_and_hazards.md R290), with the default parameters. -/
def State.reset : State where
  cfg := defaultParams
  slots := List.replicate defaultSlots Slot.zero
  idxEntry := List.replicate defaultSlots 0
  idxCount := 0
  initOk := false
  poll := false
  sr := 0
  cap := 0
  startMsEngine := 0
  accInc := 0
  acc := 0
  rng := defaultParams.ditherSeed
  diag := Counters.zero
  snap := Counters.zero
  err := 0
  result := 0
  arg0 := 0
  arg1 := 0
  arg2 := 0
  arg3 := 0
  tickPending := false
  env := Env.reset

end Sys2Proof.Machine
end

