-- ==== Sys2Proof/Machine/Flags.lean ====
section
/-! DEFINITION. The block's flags (10_state.md R33), the error codes (60_exceptions.md R262), and every register
value that is computed from state (10_state.md R38 to R43). -/

namespace Sys2Proof.Machine

/-- The error codes (60_exceptions.md R262). -/
inductive ErrCode where
  /-- The command succeeded. -/
  | ok
  /-- `init_ok = 0`. -/
  | notInit
  /-- OPC in 0x09..0xFF. -/
  | badOpcode
  /-- RSV nonzero, or SLOT nonzero on an opcode without a slot. -/
  | reserved
  /-- SLOT at or above N_SLOTS. -/
  | badSlot
  /-- An operand out of range. -/
  | badArg
  /-- No idle slot. -/
  | noSlot
  /-- The transport's bring-up failed. -/
  | initFail
  deriving DecidableEq, Repr

/-- The number written to `err` (60_exceptions.md R262). -/
def ErrCode.code : ErrCode → BitVec 4
  | .ok => 0
  | .notInit => 1
  | .badOpcode => 2
  | .reserved => 3
  | .badSlot => 4
  | .badArg => 5
  | .noSlot => 6
  | .initFail => 7

/-- A slot is idle when `active = 0` and `scheduled = 0` (10_state.md R26). -/
def Slot.isIdle (sl : Slot) : Bool := !sl.active && !sl.scheduled

/-- `active = 1 or scheduled = 1`: what the index lists and BUSY counts (10_state.md R30, R41). -/
def Slot.isBusy (sl : Slot) : Bool := sl.active || sl.scheduled

/-- `FirstFree()` (40_oscillator_bank.md R115). -/
def firstFree (slots : List Slot) : Option Nat := slots.findIdx? Slot.isIdle

/-- `Elapsed(now, t)`: `signed32(u32(now - t)) >= 0` (40_oscillator_bank.md R135). -/
def elapsed (now t : Word) : Bool := decide (0 ≤ (now - t).toInt)

/-- CAPS (10_state.md R38). -/
def capsReg (s : State) : Word :=
  BitVec.ofNat 8 s.cfg.fadeLen ++ BitVec.ofNat 8 Config.qtableLen ++ BitVec.ofNat 8 Config.bitDepth
    ++ BitVec.ofNat 8 s.nSlots

/-- STATUS (10_state.md R39). -/
def statusReg (s : State) : Word :=
  0#24 ++ s.err ++ 0#2 ++ (if s.poll then 1#1 else 0#1) ++ (if s.initOk then 1#1 else 0#1)

/-- `tp_free`: the transport's free space, never above its capacity (20_memory.md R80). -/
def Env.space (e : Env) : Word := if e.tpFree.toNat ≤ e.tpCap.toNat then e.tpFree else e.tpCap

/-- BUF_FREE: `TpAvail()` sampled at the read, or 0 before initialization (10_state.md R40, log 19). -/
def bufFreeReg (s : State) : Word := if s.initOk then s.env.space else 0

/-- COUNTS (10_state.md R41). -/
def countsReg (s : State) : Word :=
  0#8 ++ s.idxCount ++ BitVec.ofNat 8 (s.slots.countP (·.active)) ++ BitVec.ofNat 8 (s.slots.countP Slot.isBusy)

/-- FREE_SLOT (10_state.md R42). -/
def freeSlotReg (s : State) : Word :=
  match firstFree s.slots with
  | some i => u32 i
  | none => s.cfg.noSlot

/-- SLOT_STATUS[i], 0 for i at or above N_SLOTS (10_state.md R43). -/
def slotStatusReg (s : State) (i : Nat) : Word :=
  match s.slots[i]? with
  | some sl => 0#30 ++ (if sl.scheduled then 1#1 else 0#1) ++ (if sl.active then 1#1 else 0#1)
  | none => 0

end Sys2Proof.Machine
end

