-- ==== Sys2Proof/Machine/Operands.lean ====
section
/-! DEFINITION. The operand forms of 30_encoding.md R93 and their conversion and checks, 40_oscillator_bank.md R111
to R114 and 41_synthesizer.md R152. -/

namespace Sys2Proof.Machine

/-- The operands of an arm command after their checks (40_oscillator_bank.md R111). -/
structure ArmOperands where
  /-- The phase increment. -/
  inc : Word
  /-- The amplitude. -/
  amp : BitVec 8
  /-- The duration in samples. -/
  dur : Word
  /-- The delay in milliseconds. -/
  delay : Word
  deriving DecidableEq, Repr

/-- `F_eff`: PLAY_CH's frequency compensation, none in PLAY (40_oscillator_bank.md R111, R122). -/
def effectiveFreq (p : Params) (isCh : Bool) (f : Word) : Nat :=
  if isCh then f.toNat * p.freqCompQ16 / 65536 else f.toNat

/-- `ComputeInc(F, sr)` on exact integers (41_synthesizer.md R152). -/
def computeInc (f sr : Nat) : Nat := roundHalfUp (f * 65536) sr

/-- `duration_samples` before its range check (40_oscillator_bank.md R112). -/
def durationSamples (ms sr : Nat) : Nat := ms * sr / 1000

/-- The volume operand, ARG1[7:0] (30_encoding.md R93, 40_oscillator_bank.md R114). -/
def volumeOf (v : Word) : BitVec 8 := v.extractLsb' 0 8

/-- ARG1[31:8] is 0 (40_oscillator_bank.md R114). -/
def volumeLegal (v : Word) : Bool := v.extractLsb' 8 24 == 0

/-- The delay operand is below 2^31 (40_oscillator_bank.md R113). -/
def delayLegal (d : Word) : Bool := decide (d.toNat < 2 ^ 31)

/-- `ArmOperands(F, is_ch)`; none is `Reject(BAD_ARG)`, the one code every check of it raises
(40_oscillator_bank.md R111). -/
def armOperands (isCh : Bool) (s : State) : Option ArmOperands :=
  let inc := computeInc (effectiveFreq s.cfg isCh s.arg0) s.sr.toNat
  let dur := durationSamples s.arg2.toNat s.sr.toNat
  if !fitsWord inc then none
  else if !volumeLegal s.arg1 then none
  else if !fitsWord dur then none
  else if !delayLegal s.arg3 then none
  else some { inc := u32 inc, amp := volumeOf s.arg1, dur := u32 dur, delay := s.arg3 }

/-- INIT's sample rate is legal (45_system.md R241). -/
def rateLegal (p : Params) (sr : Word) : Bool := decide (p.srMin ≤ sr.toNat ∧ sr.toNat ≤ p.srMax)

/-- SLOT names a slot of the bank (30_encoding.md R96, step 4). -/
def slotLegal (s : State) (n : SlotNo) : Bool := decide (n.toNat < s.nSlots)

end Sys2Proof.Machine
end

