-- ==== Sys2Proof/Machine/Ops.lean ====
section
/-! DEFINITION. The shared operations: how a command ends, the bank and its index, reset, and the calls on the
transport. -/

namespace Sys2Proof.Machine

/-! ## How a command ends -/

/-- `err` and `result` written, nothing else (60_exceptions.md R264). -/
def State.withStatus (s : State) (e : ErrCode) (r : Word) : State := { s with err := e.code, result := r }

/-- `raise Reject(code)`, the block's only failure primitive, which stands where other machines take an exception
(00_scope.md R13): there is no saved state, no mode and no vector, and the command ends. -/
def reject (e : ErrCode) (s : State) : State := s.withStatus e Config.rejectResult

/-- PLAY without a free slot: `result <- NO_SLOT; err <- NO_SLOT` (40_oscillator_bank.md R120, log 10). -/
def noFreeSlot (s : State) : State := s.withStatus .noSlot s.cfg.noSlot

/-- `result <- r; err <- OK` (60_exceptions.md R263). -/
def finish (r : Word) (s : State) : State := s.withStatus .ok r

/-! ## The bank and the index -/

/-- The bank replaced. -/
def State.withSlots (s : State) (slots : List Slot) : State := { s with slots := slots }

/-- The numbers of the slots with `active = 1 or scheduled = 1`, ascending (43_active_index.md R191). -/
def busySlots (slots : List Slot) : List Nat :=
  (List.range slots.length).filter (fun i => (slots.getD i Slot.zero).isBusy)

/-- `Rebuild()`: the entries below the new count, the entries above keep their old values, then the count
(43_active_index.md R192). -/
def rebuild (s : State) : State :=
  let live := (busySlots s.slots).map (BitVec.ofNat 8)
  { s with idxEntry := live ++ s.idxEntry.drop live.length, idxCount := BitVec.ofNat 8 live.length }

/-- `ArmDelayed` on one slot (40_oscillator_bank.md R118); `phase` and `played` are not written (log 11). -/
def armDelayed (now delay : Word) (sl : Slot) : Slot :=
  { sl with scheduled := true, active := false, startMs := now + delay }

/-- `ArmNow` on one slot (40_oscillator_bank.md R119). -/
def armNow (sl : Slot) : Slot := { sl with active := true, scheduled := false, phase := 0, played := 0 }

/-- `ArmSlot` on the slot it arms (40_oscillator_bank.md R116). -/
def armed (now : Word) (o : ArmOperands) (sl : Slot) : Slot :=
  let set : Slot := { sl with inc := o.inc, amp := o.amp, dur := o.dur, env := 0 }
  if 0 < o.delay.toNat then armDelayed now o.delay set else armNow set

/-- `ArmSlot(i, inc, amp, dsamp, delay)` (40_oscillator_bank.md R116). -/
def armSlot (i : Nat) (o : ArmOperands) (s : State) : State :=
  rebuild (s.withSlots (s.slots.modify i (armed s.env.now o)))

/-- `FadeOut(i)` on an active slot (40_oscillator_bank.md R125). -/
def fadeOut (p : Params) (sl : Slot) : Slot :=
  if sl.played.toNat + p.fadeLen ≤ 0xFFFFFFFF then { sl with dur := sl.played + u32 p.fadeLen }
  else { sl with played := 0, dur := u32 p.fadeLen }

/-- `FadeOut` where the slot is active (40_oscillator_bank.md R128). -/
def fadeIfActive (p : Params) (sl : Slot) : Slot := if sl.active then fadeOut p sl else sl

/-- A scheduled slot whose start time has come (40_oscillator_bank.md R134, R135). -/
def isDue (now : Word) (sl : Slot) : Bool := sl.scheduled && elapsed now sl.startMs

/-- The sweep's transition to active (40_oscillator_bank.md R134). -/
def activated (sl : Slot) : Slot :=
  { sl with scheduled := false, active := true, phase := 0, played := 0, env := 0 }

/-- The sweep on one slot (40_oscillator_bank.md R134). -/
def swept (now : Word) (sl : Slot) : Slot := if isDue now sl then activated sl else sl

/-- The number of slots the sweep activates (40_oscillator_bank.md R134). -/
def dueCount (s : State) : Nat := s.slots.countP (isDue s.env.now)

/-- The activation sweep, with its rebuild where it activated a slot (40_oscillator_bank.md R134, R136). -/
def sweep (s : State) : State :=
  let t := s.withSlots (s.slots.map (swept s.env.now))
  if 0 < dueCount s then rebuild t else t

/-! ## Reset -/

/-- `ResetEngine()`: every block state but the ARG registers, `err` and `result` (45_system.md R242). -/
def resetEngine (s : State) : State :=
  { s with
    slots := List.replicate s.slots.length Slot.zero
    idxEntry := List.replicate s.idxEntry.length 0
    idxCount := 0
    initOk := false
    poll := false
    sr := 0
    cap := 0
    startMsEngine := 0
    accInc := 0
    acc := 0
    rng := s.cfg.ditherSeed
    diag := Counters.zero
    snap := Counters.zero
    tickPending := false }

/-- A pulse on the reset input: every block state (70_reset_and_hazards.md R290); no collaborator is called (R291). -/
def blockReset (s : State) : State :=
  { resetEngine s with err := 0, result := 0, arg0 := 0, arg1 := 0, arg2 := 0, arg3 := 0 }

/-! ## The collaborators -/

/-- The world replaced. -/
def State.withEnv (s : State) (e : Env) : State := { s with env := e }

/-- The consumer's draw `d`: it frees d bytes, never above the capacity (20_memory.md R80, log 4). -/
def freedBy (cap free d : Word) : Word := u32 (free.toNat + min d.toNat (cap.toNat - free.toNat))

/-- The consumer acts, by the next draw. -/
def Env.consume (e : Env) : Env :=
  match e.frees with
  | [] => e
  | d :: ds => { e with tpFree := freedBy e.tpCap e.space d, frees := ds }

/-- `TpAvail()` inside a step: the consumer acts, and the call is made (20_memory.md R72, R80). -/
def Env.query (e : Env) : Env := { e.consume with calls := .tpAvail :: e.calls }

/-- `TpWrite(v)` with at least 2 free bytes: one channel sample, 2 bytes fewer (20_memory.md R80). -/
def Env.write (e : Env) (v : Sample) : Env :=
  { e with tpFree := u32 (e.space.toNat - 2), calls := .tpWrite v :: e.calls }

/-- `TpBegin(sr, req)`: the call, and the transport's own state after it (20_memory.md R80, R81, logs 5 and 6). -/
def Env.begin (e : Env) (sr req : Word) : Env :=
  { e with
    calls := .tpBegin sr req :: e.calls
    tpCap := if e.beginOk then e.beginCap else e.tpCap
    tpFree := e.beginFree.getD e.tpFree }

/-- `TmRegister(period)`: the call (20_memory.md R82). -/
def Env.register (e : Env) (period : Word) : Env := { e with calls := .tmRegister period :: e.calls }

/-- What one call of the block does to the world. -/
def Env.call (e : Env) : PortCall → Env
  | .tpAvail => e.query
  | .tpWrite v => e.write v
  | .tpBegin sr req => e.begin sr req
  | .tmRegister period => e.register period

/-- A space query of the block. -/
def query (s : State) : State := s.withEnv s.env.query

/-- `TpAvail()`: it answers `tp_free` and changes nothing (20_memory.md R80). -/
def tpAvail (s : State) : Nat := s.env.space.toNat

/-- `TpWrite(v)`: one channel sample; none where fewer than 2 bytes are free, which the source does not define and
the block never does (20_memory.md R80, log 9). -/
def tpWrite (v : Sample) (s : State) : Option State :=
  if s.env.space.toNat < 2 then none else some (s.withEnv (s.env.write v))

/-- `WriteFrame(v)`: left, then right, the same value (44_pacing.md R211, 42_mixer.md R184). -/
def writeFrame (v : Int) (s : State) : Option State :=
  (tpWrite (BitVec.ofInt 16 v) s).bind (tpWrite (BitVec.ofInt 16 v))

/-! ## A step cut off by a reset -/

/-- The calls made from one world to a later one, the oldest first. -/
def callsBetween (before after : Env) : List PortCall :=
  (after.calls.take (after.calls.length - before.calls.length)).reverse

/-- A step from `s` that would have led to `t`, abandoned after the first `k` of its calls: the block is reset and the
world is as those calls left it (70_reset_and_hazards.md R290, R291). -/
def abandonAfter (k : Nat) (s t : State) : State :=
  (blockReset s).withEnv (((callsBetween s.env t.env).take k).foldl Env.call s.env)

end Sys2Proof.Machine
end

