-- ==== Sys2Proof/Machine/Mixer.lean ====
section
/-! DEFINITION. The synthesizer (41_synthesizer.md R151 to R163) and the mixer (42_mixer.md R166 to R185). -/

namespace Sys2Proof.Machine

/-! ## The waveform -/

/-- QTABLE[k]. -/
def quarter (table : List Int) (k : Nat) : Int := table.getD k 0

/-- `W(p)`, by the quadrant p[7:6] and the offset p[5:0] (41_synthesizer.md R158). -/
def wave (table : List Int) (p : BitVec 8) : Int :=
  let k := (p.extractLsb' 0 6).toNat
  match (p.extractLsb' 6 2).toNat with
  | 0 => quarter table k
  | 1 => quarter table (63 - k)
  | 2 => -quarter table k
  | _ => -quarter table (63 - k)

/-- The 8-bit phase, phase[31:24] (41_synthesizer.md R157). -/
def phaseIndex (phase : Word) : BitVec 8 := phase.extractLsb' 24 8

/-! ## One slot of one frame -/

/-- The slot is a contributor: active with a nonzero amplitude (42_mixer.md R168 to R170). -/
def contributes (sl : Slot) : Bool := sl.active && sl.amp != 0

/-- `s2`, the slot's contribution (42_mixer.md R169); it reads the envelope before its update (R171). -/
def contribution (p : Params) (sl : Slot) : Int :=
  let s0 := wave p.qtable (phaseIndex sl.phase)
  let s1 := asr (s0 * (sl.amp.toNat : Int)) 8
  asr (s1 * (sl.env.toNat : Int)) 8

/-- `env1`: the rise, clamped, and the fade line over it in a finite tone's last samples (42_mixer.md R172, R173).
`rem` is `dur - played1`, which R27 keeps from going below 0 (log 12). -/
def nextEnvelope (p : Params) (sl : Slot) : Nat :=
  let rise := min (sl.env.toNat + p.envStep) Config.envMax
  let rem := sl.dur.toNat - (sl.played + 1).toNat
  if sl.dur ≠ 0 ∧ rem < p.fadeLen then min rise (rem * Config.envMax / p.fadeLen) else rise

/-- The state update of an active slot (42_mixer.md R174 to R178). -/
def advance (p : Params) (sl : Slot) : Slot :=
  { sl with
    env := BitVec.ofNat 9 (nextEnvelope p sl)
    phase := sl.phase + sl.inc
    played := sl.played + 1
    active := sl.active && !(sl.dur != 0 && sl.played + 1 == sl.dur) }

/-! ## The frame -/

/-- What the slot loop carries: the bank, `sum` and `n` (42_mixer.md R185). -/
structure Mix where
  /-- The bank. -/
  slots : List Slot
  /-- The sum of the contributions. -/
  sum : Int
  /-- The contributor count. -/
  n : Nat
  deriving DecidableEq, Repr

/-- One pass of the slot loop over the index entry `e`; an entry whose slot is not active is skipped
(42_mixer.md R168, R185; log 14). -/
def mixEntry (p : Params) (m : Mix) (e : SlotNo) : Mix :=
  match m.slots[e.toNat]? with
  | none => m
  | some sl =>
    if sl.active then
      { slots := m.slots.set e.toNat (advance p sl)
        sum := if contributes sl then m.sum + contribution p sl else m.sum
        n := if contributes sl then m.n + 1 else m.n }
    else m

/-- The entries the mixer reads: those below the count, in order (42_mixer.md R167). -/
def publishedEntries (s : State) : List SlotNo := s.idxEntry.take s.idxCount.toNat

/-- The slot loop of `MixFrame()` (42_mixer.md R185). -/
def mixSlots (s : State) : Mix :=
  (publishedEntries s).foldl (mixEntry s.cfg) { slots := s.slots, sum := 0, n := 0 }

/-- The xorshift generator XS (42_mixer.md R181). -/
def xorshift (x0 : Word) : Word :=
  let x1 := x0 ^^^ (x0 <<< 13)
  let x2 := x1 ^^^ (x1 >>> 17)
  x2 ^^^ (x2 <<< 5)

/-- The value of `Dither()` from the generator state `rng` (42_mixer.md R182). -/
def ditherValue (mask rng : Word) : Int :=
  let x1 := xorshift rng
  let x2 := xorshift x1
  ((x1 &&& mask).toNat : Int) - ((x2 &&& mask).toNat : Int)

/-- The generator state after `Dither()` (42_mixer.md R182). -/
def ditherNext (rng : Word) : Word := xorshift (xorshift rng)

/-- `avg`: the equal-weight average, 0 without contributors (42_mixer.md R179). -/
def average (sum : Int) (n : Nat) : Int := if n = 0 then 0 else truncDiv sum (n : Int)

/-- `g`: the output gain (42_mixer.md R180). -/
def gain (p : Params) (avg : Int) : Int := asr (avg * (p.outGainQ8 : Int)) 8

/-- `v`: the clamped sum of gain and dither (42_mixer.md R183). -/
def outputSample (p : Params) (sum : Int) (n : Nat) (rng : Word) : Int :=
  clamp (gain p (average sum n) + ditherValue p.ditherMask rng) (-32768) 32767

/-- The value `MixFrame()` returns (42_mixer.md R185). -/
def frameValue (s : State) : Int := outputSample s.cfg (mixSlots s).sum (mixSlots s).n s.rng

/-- The state `MixFrame()` leaves: the mixed slots and the generator (42_mixer.md R166, R185). -/
def mixFrame (s : State) : State := { s with slots := (mixSlots s).slots, rng := ditherNext s.rng }

/-- `WriteFrame(MixFrame())` (44_pacing.md R202). -/
def putFrame (s : State) : Option State := writeFrame (frameValue s) (mixFrame s)

end Sys2Proof.Machine
end

