-- ==== Sys2Proof/Machine/Pacing.lean ====
section
/-! DEFINITION. The pacing controller: tick acceptance, the tick step and the polling drain (44_pacing.md R201 to
R214). -/

namespace Sys2Proof.Machine

/-- A pulse on the tick input: accepted when `init_ok = 1` and `poll = 0`, lost where one is pending already
(44_pacing.md R201). -/
def acceptTick (s : State) : State := if s.initOk && !s.poll then { s with tickPending := true } else s

/-- The baseline number of frames (44_pacing.md R204). -/
def baseline (acc accInc : Word) : Nat := (acc.toNat + accInc.toNat) / Config.accScale

/-- The accumulator's remainder (44_pacing.md R204). -/
def accRemainder (acc accInc : Word) : Word := u32 ((acc.toNat + accInc.toNat) % Config.accScale)

/-- The throttle's test, `used` being `cap - f0` (44_pacing.md R205, R206). -/
def isThrottled (p : Params) (cap f0 : Nat) : Bool :=
  decide (100 * ((cap : Int) - f0) > (p.fullPct : Int) * cap)

/-- The catch-up's test (44_pacing.md R205, R207). -/
def isCatchUp (p : Params) (cap f0 : Nat) : Bool :=
  decide (100 * ((cap : Int) - f0) < (p.lowPct : Int) * cap)

/-- The occupancy correction of the number of frames (44_pacing.md R206, R207). -/
def corrected (p : Params) (cap f0 n : Nat) : Nat :=
  if isThrottled p cap f0 then n - 1 else if isCatchUp p cap f0 then n + 1 else n

/-- The emergency's test (44_pacing.md R208). -/
def isEmergency (p : Params) (cap f0 : Nat) : Bool := decide (100 * f0 > p.emptyPct * cap)

/-- `diag_recovery <- diag_recovery + 1` (44_pacing.md R210). -/
def countRecovery (s : State) : State := { s with diag := { s.diag with recovery := s.diag.recovery + 1 } }

/-- `diag_skips <- diag_skips + 1` (44_pacing.md R213). -/
def countSkip (s : State) : State := { s with diag := { s.diag with skips := s.diag.skips + 1 } }

/-- `diag_underruns <- diag_underruns + 1` (44_pacing.md R208). -/
def countUnderrun (s : State) : State := { s with diag := { s.diag with underruns := s.diag.underruns + 1 } }

/-- The burst: at most `k` frames, ending at the first space check that fails (44_pacing.md R209, R210). -/
def burst : Nat → State → Option State
  | 0, s => some s
  | k + 1, s =>
    let q := query s
    if tpAvail q < Config.frameBytes then some q
    else (putFrame q).bind (fun t => burst k (countRecovery t))

/-- The normal loop: exactly `k` passes, each a frame or a skip (44_pacing.md R212, R213). -/
def normalLoop : Nat → State → Option State
  | 0, s => some s
  | k + 1, s =>
    let q := query s
    if Config.frameBytes ≤ tpAvail q then (putFrame q).bind (normalLoop k)
    else normalLoop k (countSkip q)

/-- The drain's loop: at most `k` frames, ending at the first space check that fails (44_pacing.md R214). -/
def drainLoop : Nat → State → Option State
  | 0, s => some s
  | k + 1, s =>
    let q := query s
    if tpAvail q < Config.frameBytes then some q
    else (putFrame q).bind (drainLoop k)

/-- The first lines of `TickStep()`, through its occupancy query `f0` (44_pacing.md R202 to R205). -/
def tickEntry (s : State) : State :=
  query { s with
    tickPending := false
    diag := { s.diag with ticks := s.diag.ticks + 1 }
    acc := accRemainder s.acc s.accInc }

/-- The emergency of `TickStep()` at the occupancy answer `f0` (44_pacing.md R208, R209). -/
def emergency (f0 : Nat) (s : State) : Option State :=
  if isEmergency s.cfg s.cap.toNat f0 then burst s.cfg.burstFrames (countUnderrun s) else some s

/-- The number of passes of the normal loop of a tick at the occupancy answer `f0` (44_pacing.md R204 to R207). -/
def framesDue (s : State) (f0 : Nat) : Nat := corrected s.cfg s.cap.toNat f0 (baseline s.acc s.accInc)

/-- `TickStep()` (44_pacing.md R202); none only where a TpWrite found no space (log 9). -/
def tickStep (s : State) : Option State :=
  let t := tickEntry s
  let f0 := tpAvail t
  (emergency f0 t).bind (normalLoop (framesDue s f0))

/-- `PollDrain()` (44_pacing.md R214). -/
def pollDrain (s : State) : Option State := drainLoop (s.cap.toNat / Config.frameBytes) s

/-- TICK (44_pacing.md R202): the tick step cannot fail (60_exceptions.md R261). -/
def execTick (s : State) : Out :=
  match tickStep s with
  | some t => .next t
  | none => .refused .transportOverrun

end Sys2Proof.Machine
end

