-- ==== Sys2Proof/Machine/Bank.lean ====
section
/-! DEFINITION. The oscillator bank commands: 40_oscillator_bank.md. Each begins with the state checks of the decode
order, 30_encoding.md R96 steps 3 and 4. -/

namespace Sys2Proof.Machine

/-- PLAY (40_oscillator_bank.md R117). -/
def execPlay (s : State) : Out :=
  if !s.initOk then .next (reject .notInit s)
  else
    match armOperands false s with
    | none => .next (reject .badArg s)
    | some o =>
      match firstFree s.slots with
      | none => .next (noFreeSlot s)
      | some i => .next (finish (u32 i) (armSlot i o s))

/-- PLAY_CH (40_oscillator_bank.md R121). -/
def execPlayCh (slot : SlotNo) (s : State) : Out :=
  if !s.initOk then .next (reject .notInit s)
  else if !slotLegal s slot then .next (reject .badSlot s)
  else
    match armOperands true s with
    | none => .next (reject .badArg s)
    | some o => .next (finish (u32 slot.toNat) (armSlot slot.toNat o s))

/-- STOP (40_oscillator_bank.md R124): a fade without a rebuild on an active slot, a cancel with a rebuild
otherwise. -/
def execStop (slot : SlotNo) (s : State) : Out :=
  if !s.initOk then .next (reject .notInit s)
  else if !slotLegal s slot then .next (reject .badSlot s)
  else if (s.slots.getD slot.toNat Slot.zero).active then
    .next (finish 0 (s.withSlots (s.slots.modify slot.toNat (fadeOut s.cfg))))
  else
    .next (finish 0 (rebuild (s.withSlots (s.slots.modify slot.toNat (fun sl => { sl with scheduled := false })))))

/-- STOP_ALL (40_oscillator_bank.md R128). -/
def execStopAll (s : State) : Out :=
  if !s.initOk then .next (reject .notInit s)
  else .next (finish 0 (s.withSlots (s.slots.map (fadeIfActive s.cfg))))

/-- CANCEL (40_oscillator_bank.md R131). -/
def execCancel (slot : SlotNo) (s : State) : Out :=
  if !s.initOk then .next (reject .notInit s)
  else if !slotLegal s slot then .next (reject .badSlot s)
  else if (s.slots.getD slot.toNat Slot.zero).scheduled then
    .next (finish 1 (rebuild (s.withSlots
      (s.slots.modify slot.toNat (fun sl => { sl with scheduled := false, active := false })))))
  else .next (finish 0 s)

/-- UPDATE (40_oscillator_bank.md R134): the sweep, the drain in polling mode, the number of activated slots. -/
def execUpdate (s : State) : Out :=
  if !s.initOk then .next (reject .notInit s)
  else if s.poll then
    match pollDrain (sweep s) with
    | some t => .next (finish (u32 (dueCount s)) t)
    | none => .refused .transportOverrun
  else .next (finish (u32 (dueCount s)) (sweep s))

end Sys2Proof.Machine
end

