-- ==== Sys2Proof/Machine/System.lean ====
section
/-! DEFINITION. The system commands NOP, INIT and DIAG_SNAP: 45_system.md R231, R240, R250. -/

namespace Sys2Proof.Machine

/-- NOP (45_system.md R231). -/
def execNop (s : State) : Out := .next (finish 0 s)

/-- `floor_div(1000000, TICK_HZ)`, the timer period INIT asks for (45_system.md R246). -/
def timerPeriod (p : Params) : Word := u32 (1000000 / p.tickHz)

/-- `floor_div(sr * ACC_SCALE, TICK_HZ)` (45_system.md R247). -/
def pacingIncrement (p : Params) (sr : Word) : Word := u32 (sr.toNat * Config.accScale / p.tickHz)

/-- The transport's bring-up succeeded: ok, and a capacity of at least one frame (45_system.md R243, R244). -/
def bringUpOk (e : Env) : Bool := e.beginOk && decide (Config.frameBytes ≤ e.beginCap.toNat)

/-- A failed INIT: `result <- 0` and the code, after the engine's reset (45_system.md R240). -/
def initFailed (e : ErrCode) (s : State) : State := s.withStatus e 0

/-- INIT's last lines, after the transport answered: the timer registration and the engine state
(45_system.md R240, R246, R247). -/
def bringUp (s : State) : State :=
  { s with
    sr := s.arg0
    cap := s.env.beginCap
    accInc := pacingIncrement s.cfg s.arg0
    startMsEngine := s.env.now
    poll := !s.env.timerOk
    initOk := true
    env := s.env.register (timerPeriod s.cfg) }

/-- INIT (45_system.md R240); the routing operand ARG2 is read by no rule (R245). -/
def execInit (s : State) : Out :=
  let r := resetEngine s
  if !rateLegal s.cfg s.arg0 then .next (initFailed .badArg r)
  else
    let t := r.withEnv (r.env.begin s.arg0 s.arg1)
    if !bringUpOk t.env then .next (initFailed .initFail t)
    else .next (finish 1 (bringUp t))

/-- DIAG_SNAP (45_system.md R250). -/
def execDiagSnap (s : State) : Out := .next (finish 0 { s with snap := s.diag, diag := Counters.zero })

end Sys2Proof.Machine
end

