-- ==== Sys2Proof/Machine/Dispatch.lean ====
section
/-! DEFINITION. One arm per operation, each a direct call of its meaning. -/

namespace Sys2Proof.Machine

def exec (i : Instr) (s : State) : Host.Outcome State Fault Refusal :=
  match i with
  | .nop => Sys2Proof.Machine.execNop s
  | .init => Sys2Proof.Machine.execInit s
  | .play => Sys2Proof.Machine.execPlay s
  | .playCh slot => Sys2Proof.Machine.execPlayCh slot s
  | .stop slot => Sys2Proof.Machine.execStop slot s
  | .stopAll => Sys2Proof.Machine.execStopAll s
  | .cancel slot => Sys2Proof.Machine.execCancel slot s
  | .update => Sys2Proof.Machine.execUpdate s
  | .diagSnap => Sys2Proof.Machine.execDiagSnap s
  | .tick => Sys2Proof.Machine.execTick s

end Sys2Proof.Machine
end

