-- ==== Sys2Proof/Machine/Port.lean ====
section
/-! DEFINITION. The host register port: the register map 10_state.md R37, the reads 45_system.md R232, the writes of
the operand registers R233, and the bytes of a register 20_memory.md R63. -/

namespace Sys2Proof.Machine

/-- The offset of CMD (10_state.md R37). -/
def cmdOffset : Offset := 0x008

/-- SLOT_STATUS at an offset at or above 0x100, which also covers the reserved offsets there: a multiple of 4 below
0x100 + 4 * N_SLOTS is a slot's, any other reads 0 (10_state.md R37, R43). -/
def slotStatusAt (s : State) (off : Offset) : Word :=
  if 0x100 ≤ off.toNat ∧ off.toNat % 4 = 0 then slotStatusReg s ((off.toNat - 0x100) / 4) else 0

/-- `RegRead(off)`: the register map, 0 for CMD, for every reserved offset and for a misaligned one
(10_state.md R37, 45_system.md R232, 20_memory.md R65). -/
def regRead (s : State) (off : Offset) : Word :=
  match off.toNat with
  | 0x000 => capsReg s
  | 0x004 => statusReg s
  | 0x008 => 0
  | 0x00C => s.result
  | 0x010 => s.arg0
  | 0x014 => s.arg1
  | 0x018 => s.arg2
  | 0x01C => s.arg3
  | 0x020 => s.sr
  | 0x024 => s.startMsEngine
  | 0x028 => s.cap
  | 0x02C => bufFreeReg s
  | 0x030 => s.diag.ticks
  | 0x034 => s.diag.skips
  | 0x038 => s.diag.underruns
  | 0x03C => s.diag.recovery
  | 0x040 => s.snap.ticks
  | 0x044 => s.snap.skips
  | 0x048 => s.snap.underruns
  | 0x04C => s.snap.recovery
  | 0x050 => countsReg s
  | 0x054 => freeSlotReg s
  | _ => slotStatusAt s off

/-- The byte a host bus sees at byte offset `off`: bits [8k+7 : 8k] of the register that holds it, k being the
offset's place in its word (20_memory.md R63). -/
def portByte (s : State) (off : Offset) : Byte :=
  (regRead s (off &&& 0xFFC)).extractLsb' (8 * (off.toNat % 4)) 8

/-- `RegWrite(off, v)` at every offset but CMD: ARG0..ARG3 store all 32 bits, every other offset ignores the write
(45_system.md R233, 20_memory.md R67). -/
def regWrite (off : Offset) (v : Word) (s : State) : State :=
  match off.toNat with
  | 0x010 => { s with arg0 := v }
  | 0x014 => { s with arg1 := v }
  | 0x018 => { s with arg2 := v }
  | 0x01C => { s with arg3 := v }
  | _ => s

/-- The access is part of the interface: 32 bits wide at a multiple of 4 (20_memory.md R65, log 8). -/
def accessLegal (width : Width) (off : Offset) : Bool := width == .word && off.toNat % 4 == 0

/-- The value of a read is recorded (30_encoding.md R98, log 15); nothing else changes (20_memory.md R67). -/
def recordRead (off : Offset) (s : State) : State :=
  s.withEnv { s.env with reads := (off, regRead s off) :: s.env.reads }

end Sys2Proof.Machine
end

