-- ==== Sys2Proof/Machine/Access.lean ====
section
/-! DEFINITION. What one action does: the host's accesses, among them the CMD write that issues a command
(30_encoding.md R91, R96), and the events of the environment (30_encoding.md R98); and where a command comes from. -/

namespace Sys2Proof.Machine

/-- The code of an illegal command word (30_encoding.md R96, R97). -/
def decodeCode : DecodeError → ErrCode
  | .badOpcode => .badOpcode
  | .reserved => .reserved

/-- A write of `w` to CMD: the command runs, or the illegal word is rejected (30_encoding.md R91, R96). -/
def issue (w : Word) (s : State) : Out :=
  match decode w with
  | .ok i => exec i s
  | .error e => .next (reject (decodeCode e) s)

/-- A host write (45_system.md R233). -/
def hostWrite (width : Width) (off : Offset) (v : Word) (s : State) : Out :=
  if !accessLegal width off then .refused .badAccess
  else if off = cmdOffset then issue v s
  else .next (regWrite off v s)

/-- A host read (45_system.md R232). -/
def hostRead (width : Width) (off : Offset) (s : State) : Out :=
  if !accessLegal width off then .refused .badAccess else .next (recordRead off s)

/-- A step from `s` with the outcome `o`, abandoned by a reset pulse after the first `k` of its calls
(70_reset_and_hazards.md R290, log 3). -/
def abandoned (k : Nat) (s : State) (o : Out) : Out :=
  match o with
  | .next t => .next (abandonAfter k s t)
  | .fault f => .fault f
  | .refused e => .refused e

/-- One action. -/
def perform (a : Action) (s : State) : Out :=
  match a with
  | .wr width off v => hostWrite width off v s
  | .rd width off => hostRead width off s
  | .tickPulse => .next (acceptTick s)
  | .now t => .next (s.withEnv { s.env with now := t })
  | .free b => .next (s.withEnv { s.env with tpFree := b })
  | .begin ok cap free => .next (s.withEnv { s.env with beginOk := ok, beginCap := cap, beginFree := free })
  | .timer ok => .next (s.withEnv { s.env with timerOk := ok })
  | .frees ds => .next (s.withEnv { s.env with frees := ds })
  | .resetPulse _ => .next (blockReset s)
  | .cutCommand w k => abandoned k s (issue w s)

/-- The program replaced. -/
def State.withProgram (s : State) (program : List Action) : State :=
  s.withEnv { s.env with program := program }

/-- The CMD write of a word (30_encoding.md R91). -/
def cmdWrite (w : Word) : Action := .wr .word cmdOffset w

/-- The command word the next step issues: that of the program's first action where it is a CMD write and no tick is
pending (60_exceptions.md R267). -/
def fetch (s : State) : Option Word :=
  if s.tickPending then none
  else
    match s.env.program with
    | .wr .word off w :: _ => if off = cmdOffset then some w else none
    | _ => none

/-- The state with its program's first action taken off: where that action's effect starts. -/
def State.popProgram (s : State) : State := s.withProgram s.env.program.tail

/-- One step with a pending tick: its step, before any waiting host access (60_exceptions.md R267); a reset pulse that
waits lands in it (70_reset_and_hazards.md R290, log 3). -/
def pendingTick (s : State) : Out :=
  match s.env.program with
  | .resetPulse k :: _ => abandoned k s.popProgram (exec .tick s.popProgram)
  | _ => exec .tick s

/-- One step without a pending tick: the program's next action, or nothing where none is left (60_exceptions.md
R276, logs 1 and 17). -/
def nextAction (s : State) : Out :=
  match s.env.program with
  | [] => .next s
  | a :: _ => perform a s.popProgram

/-- The word of a table row put where the next command comes from: a CMD write before the rest of the program, and
no tick pending (log 1). -/
def placeCommand (s : State) (nbits w : Nat) : State :=
  { s.withProgram (cmdWrite (BitVec.ofNat 32 (w % 2 ^ nbits)) :: s.env.program) with tickPending := false }

end Sys2Proof.Machine
end

