-- ==== Sys2Proof/Machine/Step.lean ====
section
/-! DEFINITION. One step of the block and the world around it. -/

namespace Sys2Proof.Machine

/-- One step: a pending tick's step runs before any waiting host access (60_exceptions.md R267); otherwise the next
action. -/
def step (s : State) : Host.Outcome State Fault Refusal :=
  if s.tickPending then pendingTick s else nextAction s

/-- The state whose very next step runs the command of a table word (log 1). -/
def State.withFetchWord (s : State) (nbits w : Nat) : State := placeCommand s nbits w

end Sys2Proof.Machine
end

