-- ==== Sys2Proof/Machine/Sequence.lean ====
section
/-! DEFINITION. Host sequences, the programs of this block: the lines of 30_encoding.md R98 and the
pseudo-instructions of R99, as lists of actions. -/

namespace Sys2Proof.Machine

/-- `wr OFF, V`. -/
def wrLine (off : Offset) (v : Word) : List Action := [.wr .word off v]

/-- `rd OFF`. -/
def rdLine (off : Offset) : List Action := [.rd .word off]

/-- A command's line: a write to CMD of its word (30_encoding.md R98); TICK has no line of this form. -/
def cmdLine (i : Instr) : List Action :=
  match encode i with
  | some w => [cmdWrite w]
  | none => []

/-- `INIT SR, REQ` (30_encoding.md R99). -/
def initLines (sr req : Word) : List Action := wrLine 0x010 sr ++ wrLine 0x014 req ++ cmdLine .init

/-- The operand writes of `PLAY` and `PLAYCH` (30_encoding.md R99). -/
def armLines (f v d dl : Word) : List Action :=
  wrLine 0x010 f ++ wrLine 0x014 v ++ wrLine 0x018 d ++ wrLine 0x01C dl

/-- `PLAY F, V, D, DL` (30_encoding.md R99). -/
def playLines (f v d dl : Word) : List Action := armLines f v d dl ++ cmdLine .play

/-- `PLAYCH S, F, V, D, DL` (30_encoding.md R99). -/
def playChLines (slot : SlotNo) (f v d dl : Word) : List Action := armLines f v d dl ++ cmdLine (.playCh slot)

/-- The literal `F Hz` for the frequency num / den: `round(F * 65536)` (30_encoding.md R99). DESIGN CHOICE (log 23): a
frequency at or above 65536 Hz, which no UQ16.16 value holds, is taken modulo 2^32, and a denominator of 0 gives 0. -/
def hertz (num den : Nat) : Word := u32 (roundHalfUp (num * 65536) den)

end Sys2Proof.Machine
end

