-- ==== Sys2Proof/Safety.lean ====
section
/-! DEFINITION. What the spec promises of every run: the invariants of 10_state.md, 42_mixer.md and 43_active_index.md,
and the words the statements are written in. -/

namespace Sys2Proof.Machine

/-! ## The slots -/

/-- Not active and scheduled at once (10_state.md R26). -/
def Slot.ModesExclusive (sl : Slot) : Prop := ¬(sl.active = true ∧ sl.scheduled = true)

/-- A sounding finite tone has samples left (10_state.md R27 of the slots the mixer reads, log 11). -/
def Slot.ToneUnfinished (sl : Slot) : Prop :=
  sl.active = true → sl.dur ≠ 0 → sl.played.toNat < sl.dur.toNat

/-- The envelope is in 0..256 (10_state.md R24, 42_mixer.md R176). -/
def Slot.EnvelopeInRange (sl : Slot) : Prop := sl.env.toNat ≤ Config.envMax

/-- A sounding finite tone's envelope is under the fade line, at most ENV_MAX / FADE_LEN for each sample left
(42_mixer.md R173, R188). -/
def Slot.UnderFadeLine (p : Params) (sl : Slot) : Prop :=
  sl.active = true → sl.dur ≠ 0 →
    sl.env.toNat * p.fadeLen ≤ Config.envMax * (sl.dur.toNat - sl.played.toNat)

/-- Everything the spec promises of one slot. -/
structure Slot.Ok (p : Params) (sl : Slot) : Prop where
  modes : sl.ModesExclusive
  tone : sl.ToneUnfinished
  envelope : sl.EnvelopeInRange
  fade : sl.UnderFadeLine p

/-- Every slot of the bank is as the spec promises. -/
def SlotsOk (s : State) : Prop := ∀ sl ∈ s.slots, sl.Ok s.cfg

/-! ## The bank and the index -/

/-- N_SLOTS is in 1..255 and the index has as many entries as the bank has slots (00_scope.md R8, 10_state.md R30). -/
structure BankSized (s : State) : Prop where
  nonempty : 0 < s.slots.length
  bounded : s.slots.length ≤ Config.maxSlots
  entries : s.idxEntry.length = s.slots.length

/-- The published entries as numbers. -/
def publishedNumbers (s : State) : List Nat := (publishedEntries s).map BitVec.toNat

/-- The index's invariant: the published entries are distinct, ascending and in the bank, and list every active or
scheduled slot (10_state.md R30, R31). -/
structure IndexOk (s : State) : Prop where
  count : s.idxCount.toNat ≤ s.slots.length
  ascending : (publishedNumbers s).Pairwise (· < ·)
  inBank : ∀ i ∈ publishedNumbers s, i < s.slots.length
  listsBusy : ∀ i, i < s.slots.length → (s.slots.getD i Slot.zero).isBusy = true → i ∈ publishedNumbers s

/-- What a rebuild leaves published: exactly the active or scheduled slots, ascending, without duplicates
(43_active_index.md R191). -/
structure ListsExactlyBusy (s : State) : Prop where
  ascending : (publishedNumbers s).Pairwise (· < ·)
  exactly : ∀ i, i ∈ publishedNumbers s ↔ i < s.slots.length ∧ (s.slots.getD i Slot.zero).isBusy = true

/-- The entries of `t` at positions at or above its count are those of `s` (43_active_index.md R192). -/
def KeepsUnpublished (s t : State) : Prop := ∀ j, t.idxCount.toNat ≤ j → t.idxEntry[j]? = s.idxEntry[j]?

/-! ## The engine -/

/-- Everything the spec promises of the engine-wide state. -/
structure EngineOk (s : State) : Prop where
  /-- The dither generator is never 0 (42_mixer.md R181). -/
  rng : s.rng ≠ 0
  /-- The accumulator holds a remainder (44_pacing.md R204). -/
  acc : s.acc.toNat < Config.accScale
  /-- Codes 8 to 15 are never written (60_exceptions.md R262). -/
  err : s.err.toNat ≤ 7
  /-- A tick is pending only where ticks are accepted (44_pacing.md R201). -/
  pending : s.tickPending = true → s.initOk = true ∧ s.poll = false
  /-- In polling mode the counters stay 0 (70_reset_and_hazards.md R306). -/
  polling : s.poll = true → s.diag = Counters.zero
  /-- An initialized engine has a legal rate, a capacity of a frame, the transport's capacity and its own pacing
  increment (45_system.md R240 to R247). -/
  running : s.initOk = true →
    s.cfg.srMin ≤ s.sr.toNat ∧ s.sr.toNat ≤ s.cfg.srMax ∧ Config.frameBytes ≤ s.cap.toNat ∧
      s.cap = s.env.tpCap ∧ s.accInc = pacingIncrement s.cfg s.sr
  /-- An uninitialized engine holds its reset values (70_reset_and_hazards.md R290, 45_system.md R242, R249). -/
  stopped : s.initOk = false → s = resetEngine s

/-- The invariant every step keeps. -/
structure Inv (s : State) : Prop where
  params : s.cfg.legal = true
  bank : BankSized s
  slots : SlotsOk s
  index : IndexOk s
  engine : EngineOk s

/-! ## The host's actions -/

/-- The action is one the model has a transition for (20_memory.md R65, log 8). -/
def Action.legal : Action → Bool
  | .wr width off _ => accessLegal width off
  | .rd width off => accessLegal width off
  | _ => true

/-- The next action is a pulse on the reset input. -/
def NextResets (s : State) : Prop := ∃ k rest, s.env.program = .resetPulse k :: rest

/-- The next action is a write to CMD, cut off or not, or a pulse on the reset input. -/
def NextWritesStatus (s : State) : Prop :=
  ∃ a rest, s.env.program = a :: rest ∧
    ((∃ k, a = .resetPulse k) ∨ (∃ w, a = cmdWrite w) ∨ ∃ w k, a = .cutCommand w k)

/-! ## Frames -/

/-- The channel samples of a record of calls, the oldest first. -/
def channelSamples (calls : List PortCall) : List Sample :=
  calls.reverse.filterMap (fun c => match c with | .tpWrite v => some v | _ => none)

/-- From `s` to `t` the block wrote exactly the frames `vs`, the oldest first, each sample to both channels
(44_pacing.md R211, 42_mixer.md R184). -/
def WritesFrames (s t : State) (vs : List Sample) : Prop :=
  channelSamples t.env.calls = channelSamples s.env.calls ++ vs.flatMap (fun v => [v, v])

/-- The first `n` frames from `s`: the k-th is the value of the frame after k frames, as 16 bits (42_mixer.md R166,
R185; 20_memory.md R64). -/
def framesFrom (s : State) (n : Nat) : List Sample :=
  (List.range n).map (fun k => BitVec.ofInt 16 (frameValue (mixFrame^[k] s)))

/-- What one written frame does to a slot: an active one advances, any other stays (42_mixer.md R168, R185). -/
def frameStep (p : Params) (sl : Slot) : Slot := if sl.active then advance p sl else sl

/-- The contributors of a bank, in slot order (42_mixer.md R168 to R170). -/
def contributors (slots : List Slot) : List Slot := slots.filter (fun sl => sl.active && sl.amp != 0)

/-! ## Tones -/

/-- The operands of an arm command pass every check of 40_oscillator_bank.md R111, `f` being the effective
frequency. -/
def OperandsLegal (s : State) (f : Nat) : Prop :=
  (2 * (f * 65536) + s.sr.toNat) / (2 * s.sr.toNat) ≤ 0xFFFFFFFF ∧ s.arg1.toNat ≤ 255 ∧
    s.arg2.toNat * s.sr.toNat / 1000 ≤ 0xFFFFFFFF ∧ s.arg3.toNat < 2 ^ 31

/-- The slot `sl` with the tone of the operands, `f` being the effective frequency (40_oscillator_bank.md R111, R112,
R114, R116). -/
def toneSlot (s : State) (f : Nat) (sl : Slot) : Slot :=
  { sl with
    inc := BitVec.ofNat 32 ((2 * (f * 65536) + s.sr.toNat) / (2 * s.sr.toNat))
    amp := BitVec.ofNat 8 s.arg1.toNat
    dur := BitVec.ofNat 32 (s.arg2.toNat * s.sr.toNat / 1000)
    env := 0 }

/-- A tone armed at once or for later, by the delay operand (40_oscillator_bank.md R116, R118, R119). -/
def toneArmed (s : State) (f : Nat) (sl : Slot) : Slot :=
  if s.arg3 = 0 then
    { toneSlot s f sl with active := true, scheduled := false, phase := 0, played := 0 }
  else
    { toneSlot s f sl with active := false, scheduled := true, startMs := s.env.now + s.arg3 }

/-- A sounding slot whose fade over `n` samples begins (40_oscillator_bank.md R125). -/
def fading (n : Nat) (sl : Slot) : Slot :=
  if sl.played.toNat + n < 2 ^ 32 then { sl with dur := sl.played + BitVec.ofNat 32 n }
  else { sl with played := 0, dur := BitVec.ofNat 32 n }

/-- A scheduled slot's start time is at or before `now` on the wrapping clock (40_oscillator_bank.md R135). -/
abbrev StartDue (now : Word) (sl : Slot) : Prop := sl.scheduled = true ∧ 0 ≤ (now - sl.startMs).toInt

/-- A slot after the activation sweep at `now` (40_oscillator_bank.md R134). -/
def afterSweep (now : Word) (sl : Slot) : Slot :=
  if StartDue now sl then
    { sl with scheduled := false, active := true, phase := 0, played := 0, env := 0 }
  else sl

/-- The number of slots a sweep at `now` activates (40_oscillator_bank.md R134). -/
def dueSlots (now : Word) (slots : List Slot) : Nat := slots.countP (fun sl => decide (StartDue now sl))

/-- An engine as `ResetEngine()` leaves it, field by field (45_system.md R242, 70_reset_and_hazards.md R290). -/
def freshEngine (s : State) : State :=
  { s with
    slots := List.replicate s.slots.length
      { phase := 0, inc := 0, amp := 0, env := 0, dur := 0, played := 0, startMs := 0, active := false,
        scheduled := false }
    idxEntry := List.replicate s.idxEntry.length 0
    idxCount := 0, initOk := false, poll := false, sr := 0, cap := 0, startMsEngine := 0, accInc := 0, acc := 0
    rng := s.cfg.ditherSeed
    diag := { ticks := 0, skips := 0, underruns := 0, recovery := 0 }
    snap := { ticks := 0, skips := 0, underruns := 0, recovery := 0 }
    tickPending := false }

end Sys2Proof.Machine
end

