-- ==== Sys2Proof/Certificates/Slice0/Obligations.lean ====
section
/-! DEFINITION. The statements for the provers: what the numbered rules of spec/ say of this machine. What the block
writes to the transport and what a read returns are seen through the model's own records `env.calls` and `env.reads`
(log 15), and the next access or event is the head of its queue `env.program` (log 1). -/

open Sys2Proof Sys2Proof.Machine

/-! ## The command words -/

/-- Every operation that has a word decodes back from it, with every SLOT (30_encoding.md R92, R94, R95). -/
def Obligations.DecodeEncodeRoundTrip : Prop :=
  ∀ i : Instr, i.wellFormed = true → ∃ w, encode i = some w ∧ decode w = .ok i

/-- A word that decodes is the only word of its operation, so no bit of it is dropped (30_encoding.md R92, R96). -/
def Obligations.DecodedWordIsItsEncoding : Prop :=
  ∀ (w : Word) (i : Instr), decode w = .ok i → i.wellFormed = true ∧ encode i = some w

/-- The pattern table: a word fits a row exactly where it decodes to that row's operation, and no word fits two
rows (30_encoding.md R95). -/
def Obligations.PatternTableIsExact : Prop :=
  ∀ w : Word,
    (w &&& 0xFFFFFFFF#32 = 0x00000000#32 ↔ decode w = .ok .nop) ∧
    (w &&& 0xFFFFFFFF#32 = 0x00000001#32 ↔ decode w = .ok .init) ∧
    (w &&& 0xFFFFFFFF#32 = 0x00000002#32 ↔ decode w = .ok .play) ∧
    (w &&& 0xFFFF00FF#32 = 0x00000003#32 ↔ decode w = .ok (.playCh (w.extractLsb' 8 8))) ∧
    (w &&& 0xFFFF00FF#32 = 0x00000004#32 ↔ decode w = .ok (.stop (w.extractLsb' 8 8))) ∧
    (w &&& 0xFFFFFFFF#32 = 0x00000005#32 ↔ decode w = .ok .stopAll) ∧
    (w &&& 0xFFFF00FF#32 = 0x00000006#32 ↔ decode w = .ok (.cancel (w.extractLsb' 8 8))) ∧
    (w &&& 0xFFFFFFFF#32 = 0x00000007#32 ↔ decode w = .ok .update) ∧
    (w &&& 0xFFFFFFFF#32 = 0x00000008#32 ↔ decode w = .ok .diagSnap) ∧
    (patternTable.filter (matchesRow w)).length ≤ 1

/-- Words of 30_encoding.md R95 with a slot where the row has one, and 95_test_vectors.md section 3. -/
def Obligations.WrittenOutWordsDecode : Prop :=
  decode 0x00000000#32 = .ok .nop ∧ decode 0x00000001#32 = .ok .init ∧ decode 0x00000002#32 = .ok .play ∧
  decode 0x00000703#32 = .ok (.playCh 7) ∧ decode 0x00000904#32 = .ok (.stop 9) ∧
  decode 0x00000005#32 = .ok .stopAll ∧ decode 0x00000106#32 = .ok (.cancel 1) ∧
  decode 0x00000007#32 = .ok .update ∧ decode 0x00000008#32 = .ok .diagSnap

/-- A CMD write of an illegal word changes `err` and `result` only, in every state (30_encoding.md R97): BAD_OPCODE
for an opcode at or above 9, RESERVED for a reserved bit, or a slot where the opcode takes none. -/
def Obligations.IllegalWordsRejected : Prop :=
  ∀ (s : State) (w : Word) (rest : List Action), s.tickPending = false → s.env.program = cmdWrite w :: rest →
    (9 ≤ w.toNat % 256 →
      step s = .next { s with err := 2, result := 0xFFFFFFFF, env := { s.env with program := rest } }) ∧
    (w.toNat % 256 < 9 →
      w.toNat / 65536 ≠ 0 ∨ (w.toNat / 256 % 256 ≠ 0 ∧ ¬(w.toNat % 256 = 3 ∨ w.toNat % 256 = 4 ∨ w.toNat % 256 = 6)) →
      step s = .next { s with err := 3, result := 0xFFFFFFFF, env := { s.env with program := rest } })

/-! ## The step -/

/-- A step runs the decoded command: where no tick is pending and the next action writes `w` to CMD, the step is the
command's meaning at the state with that action taken off (30_encoding.md R91). The queue of actions is the model's
own, log 1. -/
def Obligations.StepRunsDecodedCommand : Prop :=
  ∀ (s : State) (w : Word) (i : Instr) (rest : List Action), s.tickPending = false →
    s.env.program = cmdWrite w :: rest → decode w = .ok i →
    step s = exec i { s with env := { s.env with program := rest } }

/-- A pending tick's step runs first, whatever the host has waiting (60_exceptions.md R267); a reset pulse is no host
access, and what it meets there is said of it. -/
def Obligations.PendingTickRunsFirst : Prop :=
  ∀ s : State, s.tickPending = true → ¬NextResets s → step s = exec .tick s

/-- A pulse on the tick input is accepted exactly where the engine is initialized and not polling
(44_pacing.md R201); it touches nothing else. -/
def Obligations.TickPulseAcceptance : Prop :=
  ∀ (s : State) (rest : List Action), s.tickPending = false → s.env.program = .tickPulse :: rest →
    (s.initOk = true ∧ s.poll = false →
      step s = .next { s with tickPending := true, env := { s.env with program := rest } }) ∧
    (¬(s.initOk = true ∧ s.poll = false) →
      step s = .next { s with env := { s.env with program := rest } })

/-- A pulse on the reset input sets every block state to its reset value in one step and makes no call itself, whatever
the block was doing: between steps; in a pending tick's step, which is abandoned after k of its calls; and in a command,
abandoned after k of its calls (70_reset_and_hazards.md R290, R291). That `k` counts the calls is the model's, log 3. -/
def Obligations.ResetPulseRestoresBlock : Prop :=
  ∀ (s : State) (k : Nat) (rest : List Action),
    let u : State := { s with env := { s.env with program := rest } }
    let cut (e : Env) : State :=
      { freshEngine s with err := 0, result := 0, arg0 := 0, arg1 := 0, arg2 := 0, arg3 := 0, env := e }
    (s.tickPending = false → s.env.program = .resetPulse k :: rest → step s = .next (cut u.env)) ∧
    (s.tickPending = true → s.env.program = .resetPulse k :: rest →
      ∃ (t : State) (cs : List PortCall), exec .tick u = .next t ∧ t.env.calls = cs.reverse ++ s.env.calls ∧
        step s = .next (cut ((cs.take k).foldl Env.call u.env))) ∧
    ∀ w : Word, s.tickPending = false → s.env.program = .cutCommand w k :: rest →
      (∀ i : Instr, decode w = .ok i →
        ∃ (t : State) (cs : List PortCall), exec i u = .next t ∧ t.env.calls = cs.reverse ++ s.env.calls ∧
          step s = .next (cut ((cs.take k).foldl Env.call u.env))) ∧
      (∀ e : DecodeError, decode w = .error e → step s = .next (cut u.env))

/-- No step stops the block: every step answers a next state, but for a host access that is not 32 bits wide at a
multiple of 4 (60_exceptions.md R261); so no TpWrite is ever made without space (93_implementation_defined.md X2). -/
def Obligations.StepNeverStops : Prop :=
  ∀ s : State, (s.tickPending = true ∨ ∀ a ∈ s.env.program.head?, a.legal = true) → ∃ t, step s = .next t

/-! ## System commands -/

/-- NOP writes `result` and `err` only (45_system.md R231). -/
def Obligations.NopAnswersZero : Prop :=
  ∀ s : State, exec .nop s = .next { s with err := 0, result := 0 }

/-- DIAG_SNAP copies the four counters and clears them in one step (45_system.md R250). -/
def Obligations.DiagSnapCopiesAndClears : Prop :=
  ∀ s : State, exec .diagSnap s = .next
    { s with
      snap := s.diag
      diag := { ticks := 0, skips := 0, underruns := 0, recovery := 0 }
      err := 0, result := 0 }

/-- INIT with a legal rate and a transport of at least one frame resets the engine, asks for the timer and brings the
engine up, polling where the timer was refused (45_system.md R240, R242, R246, R247). What it leaves of the
transport's free space is the model's choice, log 5. -/
def Obligations.InitBringsEngineUp : Prop :=
  ∀ s : State, s.cfg.srMin ≤ s.arg0.toNat → s.arg0.toNat ≤ s.cfg.srMax → s.env.beginOk = true →
    4 ≤ s.env.beginCap.toNat →
    exec .init s = .next
      { freshEngine s with
        initOk := true
        poll := !s.env.timerOk
        sr := s.arg0
        cap := s.env.beginCap
        startMsEngine := s.env.now
        accInc := BitVec.ofNat 32 (s.arg0.toNat * 1000 / s.cfg.tickHz)
        err := 0, result := 1
        env := { s.env with
          tpCap := s.env.beginCap
          tpFree := s.env.beginFree.getD s.env.tpFree
          calls := .tmRegister (BitVec.ofNat 32 (1000000 / s.cfg.tickHz)) :: .tpBegin s.arg0 s.arg1 :: s.env.calls } }

/-- A failed INIT leaves the engine reset and unusable: BAD_ARG and no call for a rate outside its range, INIT_FAIL
after the bring-up otherwise; `result` is 0 (45_system.md R240, R241, R243, R244). What the call leaves of the
transport's capacity and free space is the model's choice, log 5. -/
def Obligations.InitFailureLeavesEngineReset : Prop :=
  ∀ s : State,
    (s.arg0.toNat < s.cfg.srMin ∨ s.cfg.srMax < s.arg0.toNat →
      exec .init s = .next { freshEngine s with err := 5, result := 0 }) ∧
    (s.cfg.srMin ≤ s.arg0.toNat ∧ s.arg0.toNat ≤ s.cfg.srMax →
      s.env.beginOk = false ∨ s.env.beginCap.toNat < 4 →
      exec .init s = .next
        { freshEngine s with
          err := 7, result := 0
          env := { s.env with
            tpCap := if s.env.beginOk then s.env.beginCap else s.env.tpCap
            tpFree := s.env.beginFree.getD s.env.tpFree
            calls := .tpBegin s.arg0 s.arg1 :: s.env.calls } })

/-- Before a successful INIT the six scheduling commands change `err` and `result` only, whatever their slot and
operands (45_system.md R249, 30_encoding.md R96). -/
def Obligations.UninitializedEngineRejects : Prop :=
  ∀ (s : State) (n : SlotNo) (i : Instr), s.initOk = false →
    i ∈ [Instr.play, .playCh n, .stop n, .stopAll, .cancel n, .update] →
    exec i s = .next { s with err := 1, result := 0xFFFFFFFF }

/-- A slot number at or above N_SLOTS changes `err` and `result` only (30_encoding.md R96, step 4). -/
def Obligations.SlotOutOfRangeRejected : Prop :=
  ∀ (s : State) (n : SlotNo) (i : Instr), s.initOk = true → s.slots.length ≤ n.toNat →
    i ∈ [Instr.playCh n, .stop n, .cancel n] →
    exec i s = .next { s with err := 4, result := 0xFFFFFFFF }

/-! ## Arming a slot -/

/-- An arm command whose operands fail a check of 40_oscillator_bank.md R111 changes `err` and `result` only. -/
def Obligations.IllegalOperandsRejected : Prop :=
  ∀ (s : State) (n : SlotNo), s.initOk = true →
    (¬OperandsLegal s s.arg0.toNat → exec .play s = .next { s with err := 5, result := 0xFFFFFFFF }) ∧
    (n.toNat < s.slots.length → ¬OperandsLegal s (s.arg0.toNat * s.cfg.freqCompQ16 / 65536) →
      exec (.playCh n) s = .next { s with err := 5, result := 0xFFFFFFFF })

/-- PLAY arms the first idle slot, at once or for later by its delay, answers its number, lists exactly the busy
slots and touches nothing else (40_oscillator_bank.md R115 to R119, 43_active_index.md R191, R192). -/
def Obligations.PlayArmsFirstIdleSlot : Prop :=
  ∀ (s : State) (i : Nat) (sl : Slot), s.initOk = true → s.slots.length ≤ 255 → OperandsLegal s s.arg0.toNat →
    s.slots[i]? = some sl → sl.active = false → sl.scheduled = false →
    (∀ j : Nat, j < i → ∀ x : Slot, s.slots[j]? = some x → x.active = true ∨ x.scheduled = true) →
    ∃ t, exec .play s = .next t ∧
      t.slots = s.slots.set i (toneArmed s s.arg0.toNat sl) ∧ ListsExactlyBusy t ∧ KeepsUnpublished s t ∧
      t = { s with
        slots := t.slots, idxEntry := t.idxEntry, idxCount := t.idxCount, err := 0, result := BitVec.ofNat 32 i }

/-- PLAY with legal operands and no idle slot changes `err` and `result` only, `result` being NO_SLOT, by default
0xFFFFFFFF (40_oscillator_bank.md R120). -/
def Obligations.PlayWithoutIdleSlotChangesNothing : Prop :=
  defaultParams.noSlot = 0xFFFFFFFF ∧
  ∀ s : State, s.initOk = true → OperandsLegal s s.arg0.toNat →
    (∀ sl ∈ s.slots, sl.active = true ∨ sl.scheduled = true) →
    exec .play s = .next { s with err := 6, result := s.cfg.noSlot }

/-- PLAY_CH arms the slot it names whatever that slot does, with the compensated frequency, and touches nothing else
(40_oscillator_bank.md R121 to R123). -/
def Obligations.PlayChArmsNamedSlot : Prop :=
  ∀ (s : State) (n : SlotNo) (sl : Slot), s.initOk = true → s.slots.length ≤ 255 →
    OperandsLegal s (s.arg0.toNat * s.cfg.freqCompQ16 / 65536) → s.slots[n.toNat]? = some sl →
    ∃ t, exec (.playCh n) s = .next t ∧
      t.slots = s.slots.set n.toNat (toneArmed s (s.arg0.toNat * s.cfg.freqCompQ16 / 65536) sl) ∧
      ListsExactlyBusy t ∧ KeepsUnpublished s t ∧
      t = { s with
        slots := t.slots, idxEntry := t.idxEntry, idxCount := t.idxCount, err := 0
        result := BitVec.ofNat 32 n.toNat }

/-- The stored increment is within half a unit of the exact one: the tone differs from the requested frequency by at
most sr / 2^33 Hz (41_synthesizer.md R153). -/
def Obligations.IncrementWithinHalfUnit : Prop :=
  ∀ f sr : Nat, 0 < sr →
    |((computeInc f sr : Nat) : ℚ) * sr / 2 ^ 32 - (f : ℚ) / 65536| ≤ (sr : ℚ) / 2 ^ 33

/-- The duration in samples is the floor of ms * sr / 1000, and at a legal rate it is 0 exactly for 0 ms, so a finite
request never becomes indefinite (40_oscillator_bank.md R112). -/
def Obligations.FiniteDurationStaysFinite : Prop :=
  ∀ ms sr : Nat, 1000 ≤ sr →
    1000 * durationSamples ms sr ≤ ms * sr ∧ ms * sr < 1000 * (durationSamples ms sr + 1) ∧
      (durationSamples ms sr = 0 ↔ ms = 0)

/-! ## Stopping and cancelling -/

/-- STOP on an active slot starts its fade and neither clears it nor touches the index
(40_oscillator_bank.md R124, R125, R127). -/
def Obligations.StopFadesActiveSlot : Prop :=
  ∀ (s : State) (n : SlotNo) (sl : Slot), s.initOk = true → s.slots[n.toNat]? = some sl → sl.active = true →
    exec (.stop n) s = .next { s with slots := s.slots.set n.toNat (fading s.cfg.fadeLen sl), err := 0, result := 0 }

/-- STOP on a slot that is not active clears `scheduled` and rebuilds the index (40_oscillator_bank.md R126). -/
def Obligations.StopCancelsInactiveSlot : Prop :=
  ∀ (s : State) (n : SlotNo) (sl : Slot), s.initOk = true → s.slots.length ≤ 255 →
    s.slots[n.toNat]? = some sl → sl.active = false →
    ∃ t, exec (.stop n) s = .next t ∧
      t.slots = s.slots.set n.toNat { sl with scheduled := false } ∧ ListsExactlyBusy t ∧ KeepsUnpublished s t ∧
      t = { s with
        slots := t.slots, idxEntry := t.idxEntry, idxCount := t.idxCount, err := 0, result := 0 }

/-- STOP_ALL starts the fade of every active slot, leaves every other slot, and does not touch the index
(40_oscillator_bank.md R128, R129). -/
def Obligations.StopAllFadesActiveSlots : Prop :=
  ∀ s : State, s.initOk = true →
    ∃ t, exec .stopAll s = .next t ∧ t.slots.length = s.slots.length ∧
      (∀ (i : Nat) (sl : Slot), s.slots[i]? = some sl →
        t.slots[i]? = some (if sl.active then fading s.cfg.fadeLen sl else sl)) ∧
      t = { s with slots := t.slots, err := 0, result := 0 }

/-- CANCEL on a scheduled slot makes it idle, rebuilds the index and answers 1; on any other slot it changes nothing
but `err` and `result` 0 (40_oscillator_bank.md R131, R132). -/
def Obligations.CancelReleasesScheduledSlot : Prop :=
  ∀ (s : State) (n : SlotNo) (sl : Slot), s.initOk = true → s.slots.length ≤ 255 → s.slots[n.toNat]? = some sl →
    (sl.scheduled = true →
      ∃ t, exec (.cancel n) s = .next t ∧
        t.slots = s.slots.set n.toNat { sl with scheduled := false, active := false } ∧
        ListsExactlyBusy t ∧ KeepsUnpublished s t ∧
        t = { s with
          slots := t.slots, idxEntry := t.idxEntry, idxCount := t.idxCount, err := 0, result := 1 }) ∧
    (sl.scheduled = false → exec (.cancel n) s = .next { s with err := 0, result := 0 })

/-- After FadeOut a slot plays exactly FADE_LEN frames, 64 by default: it is active before each of them and idle, with
envelope 0, after the last; from a full envelope frame k uses floor((FADE_LEN - k) * 256 / FADE_LEN), by default 256,
252, ..., 4 (40_oscillator_bank.md R125, 42_mixer.md R173, R188, 70_reset_and_hazards.md R298). -/
def Obligations.StopFadeLastsSixtyFourFrames : Prop :=
  defaultParams.fadeLen = 64 ∧
  ∀ (p : Params) (sl : Slot), 0 < p.fadeLen → p.fadeLen < 2 ^ 32 → sl.active = true →
    let f := fading p.fadeLen sl
    (∀ k, k < p.fadeLen → ((frameStep p)^[k] f).active = true) ∧
    ((frameStep p)^[p.fadeLen] f).active = false ∧ ((frameStep p)^[p.fadeLen] f).env = 0 ∧
    (sl.env = 256 → ∀ k, k < p.fadeLen →
      ((frameStep p)^[k] f).env.toNat = (p.fadeLen - k) * 256 / p.fadeLen)

/-! ## UPDATE -/

/-- In tick mode UPDATE activates exactly the due slots, answers their number, rebuilds the index exactly where it
activated one, and writes nothing to the transport (40_oscillator_bank.md R134, R136, R137). -/
def Obligations.UpdateSweepsDueSlots : Prop :=
  ∀ s : State, s.initOk = true → s.poll = false → s.slots.length ≤ 255 →
    ∃ t, exec .update s = .next t ∧ t.slots.length = s.slots.length ∧
      (∀ (i : Nat) (sl : Slot), s.slots[i]? = some sl → t.slots[i]? = some (afterSweep s.env.now sl)) ∧
      (dueSlots s.env.now s.slots = 0 → t.idxEntry = s.idxEntry ∧ t.idxCount = s.idxCount) ∧
      (0 < dueSlots s.env.now s.slots → ListsExactlyBusy t ∧ KeepsUnpublished s t) ∧
      t = { s with
        slots := t.slots, idxEntry := t.idxEntry, idxCount := t.idxCount, err := 0
        result := BitVec.ofNat 32 (dueSlots s.env.now s.slots) }

/-- In polling mode UPDATE writes whole frames after its sweep, at most cap / 4 of them, counts none of them in a
diagnostic counter, rebuilds the index from the swept bank exactly where the sweep activated a slot, and touches only
the bank, the index, the generator and the transport (40_oscillator_bank.md R134, R136, R137, 43_active_index.md R191,
R192, 44_pacing.md R214). -/
def Obligations.UpdateDrainsInPollingMode : Prop :=
  ∀ s : State, s.initOk = true → s.poll = true →
    ∃ (t : State) (vs : List Sample), exec .update s = .next t ∧
      WritesFrames s t vs ∧ vs.length ≤ s.cap.toNat / 4 ∧
      (dueSlots s.env.now s.slots = 0 → t.idxEntry = s.idxEntry ∧ t.idxCount = s.idxCount) ∧
      (0 < dueSlots s.env.now s.slots → s.slots.length ≤ 255 →
        ListsExactlyBusy { t with slots := s.slots.map (afterSweep s.env.now) } ∧ KeepsUnpublished s t) ∧
      t.env = { s.env with tpFree := t.env.tpFree, frees := t.env.frees, calls := t.env.calls } ∧
      t = { s with
        slots := t.slots, idxEntry := t.idxEntry, idxCount := t.idxCount, rng := t.rng, err := 0
        result := BitVec.ofNat 32 (dueSlots s.env.now s.slots), env := t.env }

/-- Where the consumer frees nothing meanwhile, a polling UPDATE writes a frame for every 4 free bytes, up to
cap / 4 (44_pacing.md R214). The consumer's draws are the model's, log 4. -/
def Obligations.PollDrainFillsTransport : Prop :=
  ∀ s : State, s.initOk = true → s.poll = true → s.env.frees = [] →
    ∃ (t : State) (vs : List Sample), exec .update s = .next t ∧ WritesFrames s t vs ∧
      vs.length = min (s.cap.toNat / 4) (s.env.space.toNat / 4) ∧
      t.env.space.toNat = s.env.space.toNat - 4 * vs.length

/-- The elapsed test is exact on the wrapping clock for every legal delay: armed at t0 with delay d, a slot is due at
t0 + e exactly where d is at most e (40_oscillator_bank.md R113, R135). -/
def Obligations.ElapsedExactForLegalDelays : Prop :=
  ∀ (t0 : Word) (d e : Nat), d < 2 ^ 31 → e < 2 ^ 31 →
    (elapsed (t0 + BitVec.ofNat 32 e) (t0 + BitVec.ofNat 32 d) = true ↔ d ≤ e)

/-! ## The tick step -/

/-- The tick step accounts for every frame: with f0 the free space it finds, it counts itself, keeps the
accumulator's remainder, corrects the baseline by one for the occupancy, writes a burst of b frames and counts an
underrun only in an emergency, and each of its n further passes writes one frame or counts one skip
(44_pacing.md R202 to R213). -/
def Obligations.TickAccountsForEveryFrame : Prop :=
  ∀ s : State,
    let f0 := s.env.consume.space.toNat
    let base := (s.acc.toNat + s.accInc.toNat) / 1000
    let used := (s.cap.toNat : Int) - f0
    let n := if 100 * used > s.cfg.fullPct * s.cap.toNat then base - 1
      else if 100 * used < s.cfg.lowPct * s.cap.toNat then base + 1 else base
    ∃ (t : State) (vs : List Sample) (b w k : Nat), exec .tick s = .next t ∧
      WritesFrames s t vs ∧ vs.length = b + w ∧ w + k = n ∧ b ≤ s.cfg.burstFrames ∧
      (¬100 * f0 > s.cfg.emptyPct * s.cap.toNat → b = 0) ∧
      t.tickPending = false ∧ t.acc = BitVec.ofNat 32 ((s.acc.toNat + s.accInc.toNat) % 1000) ∧
      t.diag =
        { ticks := s.diag.ticks + 1
          skips := s.diag.skips + BitVec.ofNat 32 k
          underruns := if 100 * f0 > s.cfg.emptyPct * s.cap.toNat then s.diag.underruns + 1 else s.diag.underruns
          recovery := s.diag.recovery + BitVec.ofNat 32 b }

/-- Where the consumer frees nothing meanwhile, a tick writes exactly the frames that fit: the burst's first, then the
normal loop's, each skip being a pass without space (44_pacing.md R206 to R213). The consumer's draws are the
model's, log 4. -/
def Obligations.TickWithIdleConsumerIsExact : Prop :=
  ∀ s : State, s.env.frees = [] →
    let f0 := s.env.space.toNat
    let base := (s.acc.toNat + s.accInc.toNat) / 1000
    let used := (s.cap.toNat : Int) - f0
    let n := if 100 * used > s.cfg.fullPct * s.cap.toNat then base - 1
      else if 100 * used < s.cfg.lowPct * s.cap.toNat then base + 1 else base
    let b := if 100 * f0 > s.cfg.emptyPct * s.cap.toNat then min s.cfg.burstFrames (f0 / 4) else 0
    let w := min n (f0 / 4 - b)
    ∃ (t : State) (vs : List Sample), exec .tick s = .next t ∧ WritesFrames s t vs ∧
      vs.length = b + w ∧ t.env.space.toNat = f0 - 4 * (b + w) ∧
      t.diag.skips = s.diag.skips + BitVec.ofNat 32 (n - w) ∧
      t.diag.recovery = s.diag.recovery + BitVec.ofNat 32 b

/-- The tick step writes no index entry, no status, no operand and no engine setting; of a slot it writes only
`env`, `phase`, `played` and `active`, the last to 0 only, and of a slot that is not active nothing
(10_state.md R29, 43_active_index.md R194, 60_exceptions.md R264). -/
def Obligations.TickWritesOnlyItsState : Prop :=
  ∀ s t : State, exec .tick s = .next t →
    t = { s with
      slots := t.slots, rng := t.rng, acc := t.acc, diag := t.diag, tickPending := false, env := t.env } ∧
    t.env = { s.env with tpFree := t.env.tpFree, frees := t.env.frees, calls := t.env.calls } ∧
    t.slots.length = s.slots.length ∧
    ∀ (i : Nat) (a b : Slot), s.slots[i]? = some a → t.slots[i]? = some b →
      b = { a with env := b.env, phase := b.phase, played := b.played, active := b.active } ∧
      (b.active = true → a.active = true) ∧ (a.active = false → b = a)

/-- A tick writes at most the burst and n frames, n being at most (999 + acc_inc) / 1000 + 1 (44_pacing.md R216). -/
def Obligations.TickFramesBounded : Prop :=
  ∀ s : State, s.acc.toNat < 1000 →
    ∃ (t : State) (vs : List Sample), exec .tick s = .next t ∧ WritesFrames s t vs ∧
      vs.length ≤ s.cfg.burstFrames + ((999 + s.accInc.toNat) / 1000 + 1)

/-- Over T ticks the baseline writes exactly floor((a0 + T * acc_inc) / 1000) frames, so nothing drifts
(44_pacing.md R204, R215). -/
def Obligations.BaselineRateIsDriftFree : Prop :=
  ∀ (a0 inc : Word) (T : Nat), a0.toNat < 1000 →
    ((List.range T).map (fun k => baseline ((fun a => accRemainder a inc)^[k] a0) inc)).sum
      = (a0.toNat + T * inc.toNat) / 1000

/-- What a tick step writes, and a polling UPDATE after its sweep, is the frames of its own mixer: the k-th written
frame is the value of the frame after k frames, sent to both channels. Tone time is counted in them: every active slot
advances once for each until it ends, skipped frames not at all (42_mixer.md R166, R184, R185; 44_pacing.md R202, R211,
R213, R214; 70_reset_and_hazards.md R299). -/
def Obligations.WrittenFramesAdvanceSlots : Prop :=
  ∀ s : State, BankSized s → IndexOk s →
    (∃ (t : State) (n : Nat), exec .tick s = .next t ∧ WritesFrames s t (framesFrom s n) ∧
      t.slots = s.slots.map ((frameStep s.cfg)^[n]) ∧ t.rng = ditherNext^[n] s.rng) ∧
    (s.initOk = true → s.poll = true →
      ∃ (t : State) (n : Nat), exec .update s = .next t ∧
        WritesFrames s t (framesFrom
          { s with
            slots := s.slots.map (afterSweep s.env.now), idxEntry := t.idxEntry, idxCount := t.idxCount } n) ∧
        t.slots = (s.slots.map (afterSweep s.env.now)).map ((frameStep s.cfg)^[n]) ∧
        t.rng = ditherNext^[n] s.rng)

/-! ## The mixer -/

/-- Mixing over the index is mixing over the whole bank: where the index is sound, a frame advances every active slot
exactly once and leaves every other slot (10_state.md R31, 42_mixer.md R167, R168, R185). -/
def Obligations.MixerAdvancesEachActiveSlotOnce : Prop :=
  ∀ s : State, BankSized s → IndexOk s → (mixFrame s).slots = s.slots.map (frameStep s.cfg)

/-- Where the index is sound, a frame's value is computed from all contributors of the bank: each one's waveform sample
scaled by its amplitude and its envelope with two roundings down, the equal-weight average rounded toward zero, the
gain, the difference of two masked draws, and the clamp (42_mixer.md R169, R179, R180, R182, R183). -/
def Obligations.FrameValueIsBankAverage : Prop :=
  ∀ s : State, BankSized s → IndexOk s →
    let cs := contributors s.slots
    let s2 (sl : Slot) : Int :=
      Int.fdiv (Int.fdiv (wave s.cfg.qtable (sl.phase.extractLsb' 24 8) * sl.amp.toNat) 256 * sl.env.toNat) 256
    let sum := (cs.map s2).sum
    let avg := if cs.length = 0 then 0 else Int.tdiv sum cs.length
    let x1 := xorshift s.rng
    let x2 := xorshift x1
    let d : Int := (x1 &&& s.cfg.ditherMask).toNat - (x2 &&& s.cfg.ditherMask).toNat
    frameValue s = min (max (Int.fdiv (avg * s.cfg.outGainQ8) 256 + d) (-32768)) 32767

/-- Contributors with one amplitude, one envelope and one 8-bit phase mix to the frame of one of them alone: the average
is that one's contribution (42_mixer.md R187). -/
def Obligations.EqualVoicesMixToOne : Prop :=
  ∀ (s : State) (one : Slot), BankSized s → IndexOk s → one ∈ contributors s.slots →
    (∀ sl ∈ contributors s.slots,
      sl.amp = one.amp ∧ sl.env = one.env ∧ sl.phase.extractLsb' 24 8 = one.phase.extractLsb' 24 8) →
    let s2 : Int :=
      Int.fdiv (Int.fdiv (wave s.cfg.qtable (one.phase.extractLsb' 24 8) * one.amp.toNat) 256 * one.env.toNat) 256
    let x1 := xorshift s.rng
    let x2 := xorshift x1
    let d : Int := (x1 &&& s.cfg.ditherMask).toNat - (x2 &&& s.cfg.ditherMask).toNat
    frameValue s = min (max (Int.fdiv (s2 * s.cfg.outGainQ8) 256 + d) (-32768)) 32767

/-- Mixing without a contributor, every listed slot being scheduled, idle or of amplitude 0, gives the clamped dither
alone, with no division (42_mixer.md R186). -/
def Obligations.SilentMixIsDitherAlone : Prop :=
  ∀ s : State,
    (∀ e ∈ publishedEntries s, ∀ sl : Slot, s.slots[e.toNat]? = some sl → sl.active = true → sl.amp = 0) →
    let x1 := xorshift s.rng
    let x2 := xorshift x1
    let d : Int := (x1 &&& s.cfg.ditherMask).toNat - (x2 &&& s.cfg.ditherMask).toNat
    frameValue s = min (max d (-32768)) 32767

/-- A tone of D samples armed at once plays exactly D frames, for every envelope step and fade window: frame t uses the
envelope min(t * ENV_STEP, 256, floor((D - t) * 256 / FADE_LEN)), by default min(4t, 256, 4(D - t)), and the phase t
increments on, and the slot is idle with envelope 0 after frame D - 1 (42_mixer.md R172 to R175, R178, R189). -/
def Obligations.ToneLastsItsDuration : Prop :=
  ∀ (p : Params) (sl : Slot), 0 < p.fadeLen → sl.active = true → sl.played = 0 → sl.env = 0 → sl.dur ≠ 0 →
    (∀ t, t < sl.dur.toNat →
      ((frameStep p)^[t] sl).active = true ∧
      ((frameStep p)^[t] sl).env.toNat =
        min (min (t * p.envStep) 256) ((sl.dur.toNat - t) * 256 / p.fadeLen) ∧
      ((frameStep p)^[t] sl).played.toNat = t ∧
      ((frameStep p)^[t] sl).phase = sl.phase + BitVec.ofNat 32 t * sl.inc) ∧
    ((frameStep p)^[sl.dur.toNat] sl).active = false ∧ ((frameStep p)^[sl.dur.toNat] sl).env = 0

/-- An indefinite tone never ends and never fades: after any number of frames it is active, its envelope has risen by
ENV_STEP a frame up to 256, for every ENV_STEP, its phase and its play count have advanced modulo 2^32, and the rest of
it is as it was (42_mixer.md R172, R174 to R177). -/
def Obligations.IndefiniteToneKeepsSounding : Prop :=
  ∀ (p : Params) (sl : Slot) (n : Nat), sl.active = true → sl.dur = 0 → sl.env.toNat ≤ 256 →
    (frameStep p)^[n] sl =
      { sl with
        env := BitVec.ofNat 9 (min (sl.env.toNat + n * p.envStep) 256)
        phase := sl.phase + BitVec.ofNat 32 n * sl.inc
        played := sl.played + BitVec.ofNat 32 n }

/-- From one frame to the next no slot's envelope rises by more than ENV_STEP, or falls by more than 4 with the default
fade window (42_mixer.md R188). -/
def Obligations.EnvelopeStepBounded : Prop :=
  ∀ (s : State) (i : Nat) (a b : Slot), BankSized s → IndexOk s → SlotsOk s →
    s.slots[i]? = some a → (mixFrame s).slots[i]? = some b →
    b.env.toNat ≤ a.env.toNat + s.cfg.envStep ∧ (s.cfg.fadeLen = 64 → a.env.toNat ≤ b.env.toNat + 4)

/-- The dither generator is the xorshift of the shifts 13, 17 and 5, it maps nonzero to nonzero, and every frame draws
it twice (42_mixer.md R181, R182). -/
def Obligations.XorshiftNeverZero : Prop :=
  (∀ x : Word,
    let a := x ^^^ (x <<< 13)
    let b := a ^^^ (a >>> 17)
    xorshift x = b ^^^ (b <<< 5)) ∧
  (∀ x : Word, x ≠ 0 → xorshift x ≠ 0) ∧
  ∀ s : State, (mixFrame s).rng = xorshift (xorshift s.rng)

/-- The waveform is the table's quadrants for every table of 64 entries (41_synthesizer.md R158), its symmetries hold
for every table, and the default table's four quadrant points are as given (41_synthesizer.md R160). -/
def Obligations.WaveformSymmetries : Prop :=
  (∀ (table : List Int) (k : Nat) (a b : Int), k < 64 → table[k]? = some a → table[63 - k]? = some b →
    wave table (BitVec.ofNat 8 k) = a ∧ wave table (BitVec.ofNat 8 (64 + k)) = b ∧
    wave table (BitVec.ofNat 8 (128 + k)) = -a ∧ wave table (BitVec.ofNat 8 (192 + k)) = -b) ∧
  (∀ (table : List Int) (p : Nat), p < 128 →
    wave table (BitVec.ofNat 8 (p + 128)) = -wave table (BitVec.ofNat 8 p)) ∧
  (∀ (table : List Int) (p : Nat), p < 64 →
    wave table (BitVec.ofNat 8 (127 - p)) = wave table (BitVec.ofNat 8 p)) ∧
  wave defaultQtable 0 = 0 ∧ wave defaultQtable 64 = 32757 ∧ wave defaultQtable 128 = 0 ∧
  wave defaultQtable 192 = -32757

/-! ## The host port -/

/-- Each ARG register stores all 32 bits of a write to its offset; a write to any other offset but CMD has no effect
(45_system.md R233, 20_memory.md R67). -/
def Obligations.HostWritesStoreOperandsOnly : Prop :=
  ∀ (s : State) (off : Offset) (v : Word) (rest : List Action), s.tickPending = false →
    s.env.program = .wr .word off v :: rest → off.toNat % 4 = 0 → off ≠ 0x008 →
    step s = .next
      { s with
        arg0 := if off = 0x010 then v else s.arg0
        arg1 := if off = 0x014 then v else s.arg1
        arg2 := if off = 0x018 then v else s.arg2
        arg3 := if off = 0x01C then v else s.arg3
        env := { s.env with program := rest } }

/-- A read returns the register's value at the time of the read and changes no state of the block
(20_memory.md R67, 45_system.md R232). The record of reads is the model's own, log 15. -/
def Obligations.HostReadChangesNothing : Prop :=
  ∀ (s : State) (off : Offset) (rest : List Action), s.tickPending = false →
    s.env.program = .rd .word off :: rest → off.toNat % 4 = 0 →
    step s = .next
      { s with env := { s.env with program := rest, reads := (off, regRead s off) :: s.env.reads } }

/-- The model refuses an access that is not 32 bits wide or not at a multiple of 4 (20_memory.md R65, log 8). -/
def Obligations.MalformedAccessRefused : Prop :=
  ∀ (s : State) (width : Width) (off : Offset) (v : Word) (rest : List Action), s.tickPending = false →
    (s.env.program = .wr width off v :: rest ∨ s.env.program = .rd width off :: rest) →
    width ≠ .word ∨ off.toNat % 4 ≠ 0 → step s = .refused .badAccess

/-- CAPS, STATUS, BUF_FREE and COUNTS read their fields (10_state.md R38 to R41), BUF_FREE never above the transport's
capacity (20_memory.md R80). -/
def Obligations.StatusRegistersReadTheirFields : Prop :=
  ∀ s : State, s.slots.length ≤ 255 → s.cfg.fadeLen ≤ 255 →
    (regRead s 0x000).toNat = s.slots.length + 16 * 2 ^ 8 + 64 * 2 ^ 16 + s.cfg.fadeLen * 2 ^ 24 ∧
    (regRead s 0x004).toNat = s.initOk.toNat + 2 * s.poll.toNat + 16 * s.err.toNat ∧
    (regRead s 0x02C).toNat = (if s.initOk = true then min s.env.tpFree.toNat s.env.tpCap.toNat else 0) ∧
    (regRead s 0x050).toNat =
      s.slots.countP (fun sl => sl.active || sl.scheduled) + 2 ^ 8 * s.slots.countP (fun sl => sl.active)
        + 2 ^ 16 * s.idxCount.toNat

/-- FREE_SLOT reads the smallest idle slot's number, or NO_SLOT, by default 0xFFFFFFFF, where there is none
(10_state.md R42). -/
def Obligations.FreeSlotReadsFirstIdle : Prop :=
  defaultParams.noSlot = 0xFFFFFFFF ∧
  ∀ s : State,
    (∀ (i : Nat) (sl : Slot), s.slots[i]? = some sl → sl.active = false → sl.scheduled = false →
      (∀ j : Nat, j < i → ∀ x : Slot, s.slots[j]? = some x → x.active = true ∨ x.scheduled = true) →
      regRead s 0x054 = BitVec.ofNat 32 i) ∧
    ((∀ sl ∈ s.slots, sl.active = true ∨ sl.scheduled = true) → regRead s 0x054 = s.cfg.noSlot)

/-- SLOT_STATUS[i] reads the slot's two flags, and an offset of the area past the last slot reads 0
(10_state.md R43). -/
def Obligations.SlotStatusReadsFlags : Prop :=
  ∀ (s : State) (i : Nat), s.slots.length ≤ 255 → 0x100 + 4 * i < 4096 →
    (∀ sl : Slot, s.slots[i]? = some sl →
      (regRead s (BitVec.ofNat 12 (0x100 + 4 * i))).toNat = sl.active.toNat + 2 * sl.scheduled.toNat) ∧
    (s.slots.length ≤ i → regRead s (BitVec.ofNat 12 (0x100 + 4 * i)) = 0)

/-- The plain registers read the state they show, CMD reads 0, and so do the reserved offsets between FREE_SLOT and
SLOT_STATUS (10_state.md R37, 20_memory.md R68). -/
def Obligations.PlainRegistersReadTheirState : Prop :=
  ∀ s : State,
    regRead s 0x008 = 0 ∧ regRead s 0x00C = s.result ∧ regRead s 0x010 = s.arg0 ∧ regRead s 0x014 = s.arg1 ∧
    regRead s 0x018 = s.arg2 ∧ regRead s 0x01C = s.arg3 ∧ regRead s 0x020 = s.sr ∧
    regRead s 0x024 = s.startMsEngine ∧ regRead s 0x028 = s.cap ∧ regRead s 0x030 = s.diag.ticks ∧
    regRead s 0x034 = s.diag.skips ∧ regRead s 0x038 = s.diag.underruns ∧ regRead s 0x03C = s.diag.recovery ∧
    regRead s 0x040 = s.snap.ticks ∧ regRead s 0x044 = s.snap.skips ∧ regRead s 0x048 = s.snap.underruns ∧
    regRead s 0x04C = s.snap.recovery ∧
    ∀ off : Offset, 0x058 ≤ off.toNat → off.toNat < 0x100 → regRead s off = 0

/-! ## What every step keeps -/

/-- The invariant holds at reset (70_reset_and_hazards.md R290). -/
def Obligations.ResetMeetsInvariant : Prop := Inv State.reset

/-- Every step from a state that meets the invariant leads to one that does: the slots' modes, tones and envelopes,
the index, and the engine (10_state.md R26, R31; 42_mixer.md R176, R181; 44_pacing.md R204; 60_exceptions.md R262;
70_reset_and_hazards.md R306; 45_system.md R249). -/
def Obligations.StepKeepsInvariant : Prop :=
  ∀ s t : State, Inv s → step s = .next t → Inv t

/-- No step changes a parameter, the table or the number of slots and entries (10_state.md R23, R35). -/
def Obligations.StepKeepsConstantState : Prop :=
  ∀ s t : State, step s = .next t →
    t.cfg = s.cfg ∧ t.slots.length = s.slots.length ∧
      (s.idxEntry.length = s.slots.length → t.idxEntry.length = s.idxEntry.length)

/-- 10_state.md R27 read literally, of every slot and not only of active ones, is kept by every step. It is expected
to fail: 40_oscillator_bank.md R118 arms a delayed slot with a new duration and its old play count (log 11). -/
def Obligations.PlayedWithinDurationOfEverySlot : Prop :=
  ∀ s t : State, Inv s → (∀ sl ∈ s.slots, sl.dur ≠ 0 → sl.played.toNat ≤ sl.dur.toNat) → step s = .next t →
    ∀ sl ∈ t.slots, sl.dur ≠ 0 → sl.played.toNat ≤ sl.dur.toNat

/-- Only commands and reset write `err` and `result`: a tick step that no reset abandons, a read, any other write and
every event of the environment leave them (60_exceptions.md R264). -/
def Obligations.OnlyCommandsWriteStatus : Prop :=
  ∀ s t : State, step s = .next t → ¬NextResets s → s.tickPending = true ∨ ¬NextWritesStatus s →
    t.err = s.err ∧ t.result = s.result

/-- No command writes an ARG register, and only INIT changes the rate, the capacity, the pacing increment, the start
time, the mode or whether the engine is initialized (10_state.md R21, 41_synthesizer.md R155). -/
def Obligations.OnlyInitChangesEngineSetup : Prop :=
  ∀ (i : Instr) (s t : State), exec i s = .next t →
    t.arg0 = s.arg0 ∧ t.arg1 = s.arg1 ∧ t.arg2 = s.arg2 ∧ t.arg3 = s.arg3 ∧
    (i ≠ .init →
      t.sr = s.sr ∧ t.cap = s.cap ∧ t.accInc = s.accInc ∧ t.startMsEngine = s.startMsEngine ∧ t.poll = s.poll ∧
        t.initOk = s.initOk)

/-- The block acts on the world by its calls alone, each doing what its contract says, and it makes calls in three
operations only: in a tick step, in INIT, and in UPDATE in polling mode (20_memory.md R79 to R82,
40_oscillator_bank.md R137, 60_exceptions.md R276). -/
def Obligations.OnlyThreeOperationsCallOut : Prop :=
  ∀ (i : Instr) (s t : State), exec i s = .next t →
    ∃ cs : List PortCall, t.env.calls = cs.reverse ++ s.env.calls ∧ t.env = cs.foldl Env.call s.env ∧
      (cs ≠ [] → i = .tick ∨ i = .init ∨ (i = .update ∧ s.initOk = true ∧ s.poll = true))
end

