-- ==== Sys2Proof/Laws/State.lean ====
section
/-! SUPPORT. One lemma per field of the state for each update of it: what it writes, or that it leaves the field. -/

namespace Sys2Proof.Machine

@[simp] theorem withStatus_cfg (s : State) (e : ErrCode) (r : Word) : (s.withStatus e r).cfg = s.cfg := rfl
@[simp] theorem withStatus_slots (s : State) (e : ErrCode) (r : Word) : (s.withStatus e r).slots = s.slots := rfl
@[simp] theorem withStatus_idxEntry (s : State) (e : ErrCode) (r : Word) : (s.withStatus e r).idxEntry = s.idxEntry := rfl
@[simp] theorem withStatus_idxCount (s : State) (e : ErrCode) (r : Word) : (s.withStatus e r).idxCount = s.idxCount := rfl
@[simp] theorem withStatus_initOk (s : State) (e : ErrCode) (r : Word) : (s.withStatus e r).initOk = s.initOk := rfl
@[simp] theorem withStatus_poll (s : State) (e : ErrCode) (r : Word) : (s.withStatus e r).poll = s.poll := rfl
@[simp] theorem withStatus_sr (s : State) (e : ErrCode) (r : Word) : (s.withStatus e r).sr = s.sr := rfl
@[simp] theorem withStatus_cap (s : State) (e : ErrCode) (r : Word) : (s.withStatus e r).cap = s.cap := rfl
@[simp] theorem withStatus_startMsEngine (s : State) (e : ErrCode) (r : Word) : (s.withStatus e r).startMsEngine = s.startMsEngine := rfl
@[simp] theorem withStatus_accInc (s : State) (e : ErrCode) (r : Word) : (s.withStatus e r).accInc = s.accInc := rfl
@[simp] theorem withStatus_acc (s : State) (e : ErrCode) (r : Word) : (s.withStatus e r).acc = s.acc := rfl
@[simp] theorem withStatus_rng (s : State) (e : ErrCode) (r : Word) : (s.withStatus e r).rng = s.rng := rfl
@[simp] theorem withStatus_diag (s : State) (e : ErrCode) (r : Word) : (s.withStatus e r).diag = s.diag := rfl
@[simp] theorem withStatus_snap (s : State) (e : ErrCode) (r : Word) : (s.withStatus e r).snap = s.snap := rfl
@[simp] theorem withStatus_err (s : State) (e : ErrCode) (r : Word) : (s.withStatus e r).err = e.code := rfl
@[simp] theorem withStatus_result (s : State) (e : ErrCode) (r : Word) : (s.withStatus e r).result = r := rfl
@[simp] theorem withStatus_arg0 (s : State) (e : ErrCode) (r : Word) : (s.withStatus e r).arg0 = s.arg0 := rfl
@[simp] theorem withStatus_arg1 (s : State) (e : ErrCode) (r : Word) : (s.withStatus e r).arg1 = s.arg1 := rfl
@[simp] theorem withStatus_arg2 (s : State) (e : ErrCode) (r : Word) : (s.withStatus e r).arg2 = s.arg2 := rfl
@[simp] theorem withStatus_arg3 (s : State) (e : ErrCode) (r : Word) : (s.withStatus e r).arg3 = s.arg3 := rfl
@[simp] theorem withStatus_tickPending (s : State) (e : ErrCode) (r : Word) : (s.withStatus e r).tickPending = s.tickPending := rfl
@[simp] theorem withStatus_env (s : State) (e : ErrCode) (r : Word) : (s.withStatus e r).env = s.env := rfl

@[simp] theorem reject_cfg (e : ErrCode) (s : State) : (reject e s).cfg = s.cfg := rfl
@[simp] theorem reject_slots (e : ErrCode) (s : State) : (reject e s).slots = s.slots := rfl
@[simp] theorem reject_idxEntry (e : ErrCode) (s : State) : (reject e s).idxEntry = s.idxEntry := rfl
@[simp] theorem reject_idxCount (e : ErrCode) (s : State) : (reject e s).idxCount = s.idxCount := rfl
@[simp] theorem reject_initOk (e : ErrCode) (s : State) : (reject e s).initOk = s.initOk := rfl
@[simp] theorem reject_poll (e : ErrCode) (s : State) : (reject e s).poll = s.poll := rfl
@[simp] theorem reject_sr (e : ErrCode) (s : State) : (reject e s).sr = s.sr := rfl
@[simp] theorem reject_cap (e : ErrCode) (s : State) : (reject e s).cap = s.cap := rfl
@[simp] theorem reject_startMsEngine (e : ErrCode) (s : State) : (reject e s).startMsEngine = s.startMsEngine := rfl
@[simp] theorem reject_accInc (e : ErrCode) (s : State) : (reject e s).accInc = s.accInc := rfl
@[simp] theorem reject_acc (e : ErrCode) (s : State) : (reject e s).acc = s.acc := rfl
@[simp] theorem reject_rng (e : ErrCode) (s : State) : (reject e s).rng = s.rng := rfl
@[simp] theorem reject_diag (e : ErrCode) (s : State) : (reject e s).diag = s.diag := rfl
@[simp] theorem reject_snap (e : ErrCode) (s : State) : (reject e s).snap = s.snap := rfl
@[simp] theorem reject_err (e : ErrCode) (s : State) : (reject e s).err = e.code := rfl
@[simp] theorem reject_result (e : ErrCode) (s : State) : (reject e s).result = Config.rejectResult := rfl
@[simp] theorem reject_arg0 (e : ErrCode) (s : State) : (reject e s).arg0 = s.arg0 := rfl
@[simp] theorem reject_arg1 (e : ErrCode) (s : State) : (reject e s).arg1 = s.arg1 := rfl
@[simp] theorem reject_arg2 (e : ErrCode) (s : State) : (reject e s).arg2 = s.arg2 := rfl
@[simp] theorem reject_arg3 (e : ErrCode) (s : State) : (reject e s).arg3 = s.arg3 := rfl
@[simp] theorem reject_tickPending (e : ErrCode) (s : State) : (reject e s).tickPending = s.tickPending := rfl
@[simp] theorem reject_env (e : ErrCode) (s : State) : (reject e s).env = s.env := rfl

@[simp] theorem noFreeSlot_cfg (s : State) : (noFreeSlot s).cfg = s.cfg := rfl
@[simp] theorem noFreeSlot_slots (s : State) : (noFreeSlot s).slots = s.slots := rfl
@[simp] theorem noFreeSlot_idxEntry (s : State) : (noFreeSlot s).idxEntry = s.idxEntry := rfl
@[simp] theorem noFreeSlot_idxCount (s : State) : (noFreeSlot s).idxCount = s.idxCount := rfl
@[simp] theorem noFreeSlot_initOk (s : State) : (noFreeSlot s).initOk = s.initOk := rfl
@[simp] theorem noFreeSlot_poll (s : State) : (noFreeSlot s).poll = s.poll := rfl
@[simp] theorem noFreeSlot_sr (s : State) : (noFreeSlot s).sr = s.sr := rfl
@[simp] theorem noFreeSlot_cap (s : State) : (noFreeSlot s).cap = s.cap := rfl
@[simp] theorem noFreeSlot_startMsEngine (s : State) : (noFreeSlot s).startMsEngine = s.startMsEngine := rfl
@[simp] theorem noFreeSlot_accInc (s : State) : (noFreeSlot s).accInc = s.accInc := rfl
@[simp] theorem noFreeSlot_acc (s : State) : (noFreeSlot s).acc = s.acc := rfl
@[simp] theorem noFreeSlot_rng (s : State) : (noFreeSlot s).rng = s.rng := rfl
@[simp] theorem noFreeSlot_diag (s : State) : (noFreeSlot s).diag = s.diag := rfl
@[simp] theorem noFreeSlot_snap (s : State) : (noFreeSlot s).snap = s.snap := rfl
@[simp] theorem noFreeSlot_err (s : State) : (noFreeSlot s).err = ErrCode.noSlot.code := rfl
@[simp] theorem noFreeSlot_result (s : State) : (noFreeSlot s).result = s.cfg.noSlot := rfl
@[simp] theorem noFreeSlot_arg0 (s : State) : (noFreeSlot s).arg0 = s.arg0 := rfl
@[simp] theorem noFreeSlot_arg1 (s : State) : (noFreeSlot s).arg1 = s.arg1 := rfl
@[simp] theorem noFreeSlot_arg2 (s : State) : (noFreeSlot s).arg2 = s.arg2 := rfl
@[simp] theorem noFreeSlot_arg3 (s : State) : (noFreeSlot s).arg3 = s.arg3 := rfl
@[simp] theorem noFreeSlot_tickPending (s : State) : (noFreeSlot s).tickPending = s.tickPending := rfl
@[simp] theorem noFreeSlot_env (s : State) : (noFreeSlot s).env = s.env := rfl

@[simp] theorem finish_cfg (r : Word) (s : State) : (finish r s).cfg = s.cfg := rfl
@[simp] theorem finish_slots (r : Word) (s : State) : (finish r s).slots = s.slots := rfl
@[simp] theorem finish_idxEntry (r : Word) (s : State) : (finish r s).idxEntry = s.idxEntry := rfl
@[simp] theorem finish_idxCount (r : Word) (s : State) : (finish r s).idxCount = s.idxCount := rfl
@[simp] theorem finish_initOk (r : Word) (s : State) : (finish r s).initOk = s.initOk := rfl
@[simp] theorem finish_poll (r : Word) (s : State) : (finish r s).poll = s.poll := rfl
@[simp] theorem finish_sr (r : Word) (s : State) : (finish r s).sr = s.sr := rfl
@[simp] theorem finish_cap (r : Word) (s : State) : (finish r s).cap = s.cap := rfl
@[simp] theorem finish_startMsEngine (r : Word) (s : State) : (finish r s).startMsEngine = s.startMsEngine := rfl
@[simp] theorem finish_accInc (r : Word) (s : State) : (finish r s).accInc = s.accInc := rfl
@[simp] theorem finish_acc (r : Word) (s : State) : (finish r s).acc = s.acc := rfl
@[simp] theorem finish_rng (r : Word) (s : State) : (finish r s).rng = s.rng := rfl
@[simp] theorem finish_diag (r : Word) (s : State) : (finish r s).diag = s.diag := rfl
@[simp] theorem finish_snap (r : Word) (s : State) : (finish r s).snap = s.snap := rfl
@[simp] theorem finish_err (r : Word) (s : State) : (finish r s).err = ErrCode.ok.code := rfl
@[simp] theorem finish_result (r : Word) (s : State) : (finish r s).result = r := rfl
@[simp] theorem finish_arg0 (r : Word) (s : State) : (finish r s).arg0 = s.arg0 := rfl
@[simp] theorem finish_arg1 (r : Word) (s : State) : (finish r s).arg1 = s.arg1 := rfl
@[simp] theorem finish_arg2 (r : Word) (s : State) : (finish r s).arg2 = s.arg2 := rfl
@[simp] theorem finish_arg3 (r : Word) (s : State) : (finish r s).arg3 = s.arg3 := rfl
@[simp] theorem finish_tickPending (r : Word) (s : State) : (finish r s).tickPending = s.tickPending := rfl
@[simp] theorem finish_env (r : Word) (s : State) : (finish r s).env = s.env := rfl

@[simp] theorem withSlots_cfg (s : State) (l : List Slot) : (s.withSlots l).cfg = s.cfg := rfl
@[simp] theorem withSlots_slots (s : State) (l : List Slot) : (s.withSlots l).slots = l := rfl
@[simp] theorem withSlots_idxEntry (s : State) (l : List Slot) : (s.withSlots l).idxEntry = s.idxEntry := rfl
@[simp] theorem withSlots_idxCount (s : State) (l : List Slot) : (s.withSlots l).idxCount = s.idxCount := rfl
@[simp] theorem withSlots_initOk (s : State) (l : List Slot) : (s.withSlots l).initOk = s.initOk := rfl
@[simp] theorem withSlots_poll (s : State) (l : List Slot) : (s.withSlots l).poll = s.poll := rfl
@[simp] theorem withSlots_sr (s : State) (l : List Slot) : (s.withSlots l).sr = s.sr := rfl
@[simp] theorem withSlots_cap (s : State) (l : List Slot) : (s.withSlots l).cap = s.cap := rfl
@[simp] theorem withSlots_startMsEngine (s : State) (l : List Slot) : (s.withSlots l).startMsEngine = s.startMsEngine := rfl
@[simp] theorem withSlots_accInc (s : State) (l : List Slot) : (s.withSlots l).accInc = s.accInc := rfl
@[simp] theorem withSlots_acc (s : State) (l : List Slot) : (s.withSlots l).acc = s.acc := rfl
@[simp] theorem withSlots_rng (s : State) (l : List Slot) : (s.withSlots l).rng = s.rng := rfl
@[simp] theorem withSlots_diag (s : State) (l : List Slot) : (s.withSlots l).diag = s.diag := rfl
@[simp] theorem withSlots_snap (s : State) (l : List Slot) : (s.withSlots l).snap = s.snap := rfl
@[simp] theorem withSlots_err (s : State) (l : List Slot) : (s.withSlots l).err = s.err := rfl
@[simp] theorem withSlots_result (s : State) (l : List Slot) : (s.withSlots l).result = s.result := rfl
@[simp] theorem withSlots_arg0 (s : State) (l : List Slot) : (s.withSlots l).arg0 = s.arg0 := rfl
@[simp] theorem withSlots_arg1 (s : State) (l : List Slot) : (s.withSlots l).arg1 = s.arg1 := rfl
@[simp] theorem withSlots_arg2 (s : State) (l : List Slot) : (s.withSlots l).arg2 = s.arg2 := rfl
@[simp] theorem withSlots_arg3 (s : State) (l : List Slot) : (s.withSlots l).arg3 = s.arg3 := rfl
@[simp] theorem withSlots_tickPending (s : State) (l : List Slot) : (s.withSlots l).tickPending = s.tickPending := rfl
@[simp] theorem withSlots_env (s : State) (l : List Slot) : (s.withSlots l).env = s.env := rfl

@[simp] theorem withEnv_cfg (s : State) (e : Env) : (s.withEnv e).cfg = s.cfg := rfl
@[simp] theorem withEnv_slots (s : State) (e : Env) : (s.withEnv e).slots = s.slots := rfl
@[simp] theorem withEnv_idxEntry (s : State) (e : Env) : (s.withEnv e).idxEntry = s.idxEntry := rfl
@[simp] theorem withEnv_idxCount (s : State) (e : Env) : (s.withEnv e).idxCount = s.idxCount := rfl
@[simp] theorem withEnv_initOk (s : State) (e : Env) : (s.withEnv e).initOk = s.initOk := rfl
@[simp] theorem withEnv_poll (s : State) (e : Env) : (s.withEnv e).poll = s.poll := rfl
@[simp] theorem withEnv_sr (s : State) (e : Env) : (s.withEnv e).sr = s.sr := rfl
@[simp] theorem withEnv_cap (s : State) (e : Env) : (s.withEnv e).cap = s.cap := rfl
@[simp] theorem withEnv_startMsEngine (s : State) (e : Env) : (s.withEnv e).startMsEngine = s.startMsEngine := rfl
@[simp] theorem withEnv_accInc (s : State) (e : Env) : (s.withEnv e).accInc = s.accInc := rfl
@[simp] theorem withEnv_acc (s : State) (e : Env) : (s.withEnv e).acc = s.acc := rfl
@[simp] theorem withEnv_rng (s : State) (e : Env) : (s.withEnv e).rng = s.rng := rfl
@[simp] theorem withEnv_diag (s : State) (e : Env) : (s.withEnv e).diag = s.diag := rfl
@[simp] theorem withEnv_snap (s : State) (e : Env) : (s.withEnv e).snap = s.snap := rfl
@[simp] theorem withEnv_err (s : State) (e : Env) : (s.withEnv e).err = s.err := rfl
@[simp] theorem withEnv_result (s : State) (e : Env) : (s.withEnv e).result = s.result := rfl
@[simp] theorem withEnv_arg0 (s : State) (e : Env) : (s.withEnv e).arg0 = s.arg0 := rfl
@[simp] theorem withEnv_arg1 (s : State) (e : Env) : (s.withEnv e).arg1 = s.arg1 := rfl
@[simp] theorem withEnv_arg2 (s : State) (e : Env) : (s.withEnv e).arg2 = s.arg2 := rfl
@[simp] theorem withEnv_arg3 (s : State) (e : Env) : (s.withEnv e).arg3 = s.arg3 := rfl
@[simp] theorem withEnv_tickPending (s : State) (e : Env) : (s.withEnv e).tickPending = s.tickPending := rfl
@[simp] theorem withEnv_env (s : State) (e : Env) : (s.withEnv e).env = e := rfl

@[simp] theorem withProgram_cfg (s : State) (p : List Action) : (s.withProgram p).cfg = s.cfg := rfl
@[simp] theorem withProgram_slots (s : State) (p : List Action) : (s.withProgram p).slots = s.slots := rfl
@[simp] theorem withProgram_idxEntry (s : State) (p : List Action) : (s.withProgram p).idxEntry = s.idxEntry := rfl
@[simp] theorem withProgram_idxCount (s : State) (p : List Action) : (s.withProgram p).idxCount = s.idxCount := rfl
@[simp] theorem withProgram_initOk (s : State) (p : List Action) : (s.withProgram p).initOk = s.initOk := rfl
@[simp] theorem withProgram_poll (s : State) (p : List Action) : (s.withProgram p).poll = s.poll := rfl
@[simp] theorem withProgram_sr (s : State) (p : List Action) : (s.withProgram p).sr = s.sr := rfl
@[simp] theorem withProgram_cap (s : State) (p : List Action) : (s.withProgram p).cap = s.cap := rfl
@[simp] theorem withProgram_startMsEngine (s : State) (p : List Action) : (s.withProgram p).startMsEngine = s.startMsEngine := rfl
@[simp] theorem withProgram_accInc (s : State) (p : List Action) : (s.withProgram p).accInc = s.accInc := rfl
@[simp] theorem withProgram_acc (s : State) (p : List Action) : (s.withProgram p).acc = s.acc := rfl
@[simp] theorem withProgram_rng (s : State) (p : List Action) : (s.withProgram p).rng = s.rng := rfl
@[simp] theorem withProgram_diag (s : State) (p : List Action) : (s.withProgram p).diag = s.diag := rfl
@[simp] theorem withProgram_snap (s : State) (p : List Action) : (s.withProgram p).snap = s.snap := rfl
@[simp] theorem withProgram_err (s : State) (p : List Action) : (s.withProgram p).err = s.err := rfl
@[simp] theorem withProgram_result (s : State) (p : List Action) : (s.withProgram p).result = s.result := rfl
@[simp] theorem withProgram_arg0 (s : State) (p : List Action) : (s.withProgram p).arg0 = s.arg0 := rfl
@[simp] theorem withProgram_arg1 (s : State) (p : List Action) : (s.withProgram p).arg1 = s.arg1 := rfl
@[simp] theorem withProgram_arg2 (s : State) (p : List Action) : (s.withProgram p).arg2 = s.arg2 := rfl
@[simp] theorem withProgram_arg3 (s : State) (p : List Action) : (s.withProgram p).arg3 = s.arg3 := rfl
@[simp] theorem withProgram_tickPending (s : State) (p : List Action) : (s.withProgram p).tickPending = s.tickPending := rfl
@[simp] theorem withProgram_env (s : State) (p : List Action) : (s.withProgram p).env = { s.env with program := p } := rfl

@[simp] theorem popProgram_cfg (s : State) : s.popProgram.cfg = s.cfg := rfl
@[simp] theorem popProgram_slots (s : State) : s.popProgram.slots = s.slots := rfl
@[simp] theorem popProgram_idxEntry (s : State) : s.popProgram.idxEntry = s.idxEntry := rfl
@[simp] theorem popProgram_idxCount (s : State) : s.popProgram.idxCount = s.idxCount := rfl
@[simp] theorem popProgram_initOk (s : State) : s.popProgram.initOk = s.initOk := rfl
@[simp] theorem popProgram_poll (s : State) : s.popProgram.poll = s.poll := rfl
@[simp] theorem popProgram_sr (s : State) : s.popProgram.sr = s.sr := rfl
@[simp] theorem popProgram_cap (s : State) : s.popProgram.cap = s.cap := rfl
@[simp] theorem popProgram_startMsEngine (s : State) : s.popProgram.startMsEngine = s.startMsEngine := rfl
@[simp] theorem popProgram_accInc (s : State) : s.popProgram.accInc = s.accInc := rfl
@[simp] theorem popProgram_acc (s : State) : s.popProgram.acc = s.acc := rfl
@[simp] theorem popProgram_rng (s : State) : s.popProgram.rng = s.rng := rfl
@[simp] theorem popProgram_diag (s : State) : s.popProgram.diag = s.diag := rfl
@[simp] theorem popProgram_snap (s : State) : s.popProgram.snap = s.snap := rfl
@[simp] theorem popProgram_err (s : State) : s.popProgram.err = s.err := rfl
@[simp] theorem popProgram_result (s : State) : s.popProgram.result = s.result := rfl
@[simp] theorem popProgram_arg0 (s : State) : s.popProgram.arg0 = s.arg0 := rfl
@[simp] theorem popProgram_arg1 (s : State) : s.popProgram.arg1 = s.arg1 := rfl
@[simp] theorem popProgram_arg2 (s : State) : s.popProgram.arg2 = s.arg2 := rfl
@[simp] theorem popProgram_arg3 (s : State) : s.popProgram.arg3 = s.arg3 := rfl
@[simp] theorem popProgram_tickPending (s : State) : s.popProgram.tickPending = s.tickPending := rfl
@[simp] theorem popProgram_env (s : State) : s.popProgram.env = { s.env with program := s.env.program.tail } := rfl

@[simp] theorem rebuild_cfg (s : State) : (rebuild s).cfg = s.cfg := rfl
@[simp] theorem rebuild_slots (s : State) : (rebuild s).slots = s.slots := rfl
@[simp] theorem rebuild_initOk (s : State) : (rebuild s).initOk = s.initOk := rfl
@[simp] theorem rebuild_poll (s : State) : (rebuild s).poll = s.poll := rfl
@[simp] theorem rebuild_sr (s : State) : (rebuild s).sr = s.sr := rfl
@[simp] theorem rebuild_cap (s : State) : (rebuild s).cap = s.cap := rfl
@[simp] theorem rebuild_startMsEngine (s : State) : (rebuild s).startMsEngine = s.startMsEngine := rfl
@[simp] theorem rebuild_accInc (s : State) : (rebuild s).accInc = s.accInc := rfl
@[simp] theorem rebuild_acc (s : State) : (rebuild s).acc = s.acc := rfl
@[simp] theorem rebuild_rng (s : State) : (rebuild s).rng = s.rng := rfl
@[simp] theorem rebuild_diag (s : State) : (rebuild s).diag = s.diag := rfl
@[simp] theorem rebuild_snap (s : State) : (rebuild s).snap = s.snap := rfl
@[simp] theorem rebuild_err (s : State) : (rebuild s).err = s.err := rfl
@[simp] theorem rebuild_result (s : State) : (rebuild s).result = s.result := rfl
@[simp] theorem rebuild_arg0 (s : State) : (rebuild s).arg0 = s.arg0 := rfl
@[simp] theorem rebuild_arg1 (s : State) : (rebuild s).arg1 = s.arg1 := rfl
@[simp] theorem rebuild_arg2 (s : State) : (rebuild s).arg2 = s.arg2 := rfl
@[simp] theorem rebuild_arg3 (s : State) : (rebuild s).arg3 = s.arg3 := rfl
@[simp] theorem rebuild_tickPending (s : State) : (rebuild s).tickPending = s.tickPending := rfl
@[simp] theorem rebuild_env (s : State) : (rebuild s).env = s.env := rfl

@[simp] theorem armSlot_cfg (i : Nat) (o : ArmOperands) (s : State) : (armSlot i o s).cfg = s.cfg := rfl
@[simp] theorem armSlot_slots (i : Nat) (o : ArmOperands) (s : State) : (armSlot i o s).slots = s.slots.modify i (armed s.env.now o) := rfl
@[simp] theorem armSlot_initOk (i : Nat) (o : ArmOperands) (s : State) : (armSlot i o s).initOk = s.initOk := rfl
@[simp] theorem armSlot_poll (i : Nat) (o : ArmOperands) (s : State) : (armSlot i o s).poll = s.poll := rfl
@[simp] theorem armSlot_sr (i : Nat) (o : ArmOperands) (s : State) : (armSlot i o s).sr = s.sr := rfl
@[simp] theorem armSlot_cap (i : Nat) (o : ArmOperands) (s : State) : (armSlot i o s).cap = s.cap := rfl
@[simp] theorem armSlot_startMsEngine (i : Nat) (o : ArmOperands) (s : State) : (armSlot i o s).startMsEngine = s.startMsEngine := rfl
@[simp] theorem armSlot_accInc (i : Nat) (o : ArmOperands) (s : State) : (armSlot i o s).accInc = s.accInc := rfl
@[simp] theorem armSlot_acc (i : Nat) (o : ArmOperands) (s : State) : (armSlot i o s).acc = s.acc := rfl
@[simp] theorem armSlot_rng (i : Nat) (o : ArmOperands) (s : State) : (armSlot i o s).rng = s.rng := rfl
@[simp] theorem armSlot_diag (i : Nat) (o : ArmOperands) (s : State) : (armSlot i o s).diag = s.diag := rfl
@[simp] theorem armSlot_snap (i : Nat) (o : ArmOperands) (s : State) : (armSlot i o s).snap = s.snap := rfl
@[simp] theorem armSlot_err (i : Nat) (o : ArmOperands) (s : State) : (armSlot i o s).err = s.err := rfl
@[simp] theorem armSlot_result (i : Nat) (o : ArmOperands) (s : State) : (armSlot i o s).result = s.result := rfl
@[simp] theorem armSlot_arg0 (i : Nat) (o : ArmOperands) (s : State) : (armSlot i o s).arg0 = s.arg0 := rfl
@[simp] theorem armSlot_arg1 (i : Nat) (o : ArmOperands) (s : State) : (armSlot i o s).arg1 = s.arg1 := rfl
@[simp] theorem armSlot_arg2 (i : Nat) (o : ArmOperands) (s : State) : (armSlot i o s).arg2 = s.arg2 := rfl
@[simp] theorem armSlot_arg3 (i : Nat) (o : ArmOperands) (s : State) : (armSlot i o s).arg3 = s.arg3 := rfl
@[simp] theorem armSlot_tickPending (i : Nat) (o : ArmOperands) (s : State) : (armSlot i o s).tickPending = s.tickPending := rfl
@[simp] theorem armSlot_env (i : Nat) (o : ArmOperands) (s : State) : (armSlot i o s).env = s.env := rfl

@[simp] theorem query_cfg (s : State) : (query s).cfg = s.cfg := rfl
@[simp] theorem query_slots (s : State) : (query s).slots = s.slots := rfl
@[simp] theorem query_idxEntry (s : State) : (query s).idxEntry = s.idxEntry := rfl
@[simp] theorem query_idxCount (s : State) : (query s).idxCount = s.idxCount := rfl
@[simp] theorem query_initOk (s : State) : (query s).initOk = s.initOk := rfl
@[simp] theorem query_poll (s : State) : (query s).poll = s.poll := rfl
@[simp] theorem query_sr (s : State) : (query s).sr = s.sr := rfl
@[simp] theorem query_cap (s : State) : (query s).cap = s.cap := rfl
@[simp] theorem query_startMsEngine (s : State) : (query s).startMsEngine = s.startMsEngine := rfl
@[simp] theorem query_accInc (s : State) : (query s).accInc = s.accInc := rfl
@[simp] theorem query_acc (s : State) : (query s).acc = s.acc := rfl
@[simp] theorem query_rng (s : State) : (query s).rng = s.rng := rfl
@[simp] theorem query_diag (s : State) : (query s).diag = s.diag := rfl
@[simp] theorem query_snap (s : State) : (query s).snap = s.snap := rfl
@[simp] theorem query_err (s : State) : (query s).err = s.err := rfl
@[simp] theorem query_result (s : State) : (query s).result = s.result := rfl
@[simp] theorem query_arg0 (s : State) : (query s).arg0 = s.arg0 := rfl
@[simp] theorem query_arg1 (s : State) : (query s).arg1 = s.arg1 := rfl
@[simp] theorem query_arg2 (s : State) : (query s).arg2 = s.arg2 := rfl
@[simp] theorem query_arg3 (s : State) : (query s).arg3 = s.arg3 := rfl
@[simp] theorem query_tickPending (s : State) : (query s).tickPending = s.tickPending := rfl
@[simp] theorem query_env (s : State) : (query s).env = s.env.query := rfl

@[simp] theorem mixFrame_cfg (s : State) : (mixFrame s).cfg = s.cfg := rfl
@[simp] theorem mixFrame_slots (s : State) : (mixFrame s).slots = (mixSlots s).slots := rfl
@[simp] theorem mixFrame_idxEntry (s : State) : (mixFrame s).idxEntry = s.idxEntry := rfl
@[simp] theorem mixFrame_idxCount (s : State) : (mixFrame s).idxCount = s.idxCount := rfl
@[simp] theorem mixFrame_initOk (s : State) : (mixFrame s).initOk = s.initOk := rfl
@[simp] theorem mixFrame_poll (s : State) : (mixFrame s).poll = s.poll := rfl
@[simp] theorem mixFrame_sr (s : State) : (mixFrame s).sr = s.sr := rfl
@[simp] theorem mixFrame_cap (s : State) : (mixFrame s).cap = s.cap := rfl
@[simp] theorem mixFrame_startMsEngine (s : State) : (mixFrame s).startMsEngine = s.startMsEngine := rfl
@[simp] theorem mixFrame_accInc (s : State) : (mixFrame s).accInc = s.accInc := rfl
@[simp] theorem mixFrame_acc (s : State) : (mixFrame s).acc = s.acc := rfl
@[simp] theorem mixFrame_rng (s : State) : (mixFrame s).rng = ditherNext s.rng := rfl
@[simp] theorem mixFrame_diag (s : State) : (mixFrame s).diag = s.diag := rfl
@[simp] theorem mixFrame_snap (s : State) : (mixFrame s).snap = s.snap := rfl
@[simp] theorem mixFrame_err (s : State) : (mixFrame s).err = s.err := rfl
@[simp] theorem mixFrame_result (s : State) : (mixFrame s).result = s.result := rfl
@[simp] theorem mixFrame_arg0 (s : State) : (mixFrame s).arg0 = s.arg0 := rfl
@[simp] theorem mixFrame_arg1 (s : State) : (mixFrame s).arg1 = s.arg1 := rfl
@[simp] theorem mixFrame_arg2 (s : State) : (mixFrame s).arg2 = s.arg2 := rfl
@[simp] theorem mixFrame_arg3 (s : State) : (mixFrame s).arg3 = s.arg3 := rfl
@[simp] theorem mixFrame_tickPending (s : State) : (mixFrame s).tickPending = s.tickPending := rfl
@[simp] theorem mixFrame_env (s : State) : (mixFrame s).env = s.env := rfl

@[simp] theorem countRecovery_cfg (s : State) : (countRecovery s).cfg = s.cfg := rfl
@[simp] theorem countRecovery_slots (s : State) : (countRecovery s).slots = s.slots := rfl
@[simp] theorem countRecovery_idxEntry (s : State) : (countRecovery s).idxEntry = s.idxEntry := rfl
@[simp] theorem countRecovery_idxCount (s : State) : (countRecovery s).idxCount = s.idxCount := rfl
@[simp] theorem countRecovery_initOk (s : State) : (countRecovery s).initOk = s.initOk := rfl
@[simp] theorem countRecovery_poll (s : State) : (countRecovery s).poll = s.poll := rfl
@[simp] theorem countRecovery_sr (s : State) : (countRecovery s).sr = s.sr := rfl
@[simp] theorem countRecovery_cap (s : State) : (countRecovery s).cap = s.cap := rfl
@[simp] theorem countRecovery_startMsEngine (s : State) : (countRecovery s).startMsEngine = s.startMsEngine := rfl
@[simp] theorem countRecovery_accInc (s : State) : (countRecovery s).accInc = s.accInc := rfl
@[simp] theorem countRecovery_acc (s : State) : (countRecovery s).acc = s.acc := rfl
@[simp] theorem countRecovery_rng (s : State) : (countRecovery s).rng = s.rng := rfl
@[simp] theorem countRecovery_diag (s : State) : (countRecovery s).diag = { s.diag with recovery := s.diag.recovery + 1 } := rfl
@[simp] theorem countRecovery_snap (s : State) : (countRecovery s).snap = s.snap := rfl
@[simp] theorem countRecovery_err (s : State) : (countRecovery s).err = s.err := rfl
@[simp] theorem countRecovery_result (s : State) : (countRecovery s).result = s.result := rfl
@[simp] theorem countRecovery_arg0 (s : State) : (countRecovery s).arg0 = s.arg0 := rfl
@[simp] theorem countRecovery_arg1 (s : State) : (countRecovery s).arg1 = s.arg1 := rfl
@[simp] theorem countRecovery_arg2 (s : State) : (countRecovery s).arg2 = s.arg2 := rfl
@[simp] theorem countRecovery_arg3 (s : State) : (countRecovery s).arg3 = s.arg3 := rfl
@[simp] theorem countRecovery_tickPending (s : State) : (countRecovery s).tickPending = s.tickPending := rfl
@[simp] theorem countRecovery_env (s : State) : (countRecovery s).env = s.env := rfl

@[simp] theorem countSkip_cfg (s : State) : (countSkip s).cfg = s.cfg := rfl
@[simp] theorem countSkip_slots (s : State) : (countSkip s).slots = s.slots := rfl
@[simp] theorem countSkip_idxEntry (s : State) : (countSkip s).idxEntry = s.idxEntry := rfl
@[simp] theorem countSkip_idxCount (s : State) : (countSkip s).idxCount = s.idxCount := rfl
@[simp] theorem countSkip_initOk (s : State) : (countSkip s).initOk = s.initOk := rfl
@[simp] theorem countSkip_poll (s : State) : (countSkip s).poll = s.poll := rfl
@[simp] theorem countSkip_sr (s : State) : (countSkip s).sr = s.sr := rfl
@[simp] theorem countSkip_cap (s : State) : (countSkip s).cap = s.cap := rfl
@[simp] theorem countSkip_startMsEngine (s : State) : (countSkip s).startMsEngine = s.startMsEngine := rfl
@[simp] theorem countSkip_accInc (s : State) : (countSkip s).accInc = s.accInc := rfl
@[simp] theorem countSkip_acc (s : State) : (countSkip s).acc = s.acc := rfl
@[simp] theorem countSkip_rng (s : State) : (countSkip s).rng = s.rng := rfl
@[simp] theorem countSkip_diag (s : State) : (countSkip s).diag = { s.diag with skips := s.diag.skips + 1 } := rfl
@[simp] theorem countSkip_snap (s : State) : (countSkip s).snap = s.snap := rfl
@[simp] theorem countSkip_err (s : State) : (countSkip s).err = s.err := rfl
@[simp] theorem countSkip_result (s : State) : (countSkip s).result = s.result := rfl
@[simp] theorem countSkip_arg0 (s : State) : (countSkip s).arg0 = s.arg0 := rfl
@[simp] theorem countSkip_arg1 (s : State) : (countSkip s).arg1 = s.arg1 := rfl
@[simp] theorem countSkip_arg2 (s : State) : (countSkip s).arg2 = s.arg2 := rfl
@[simp] theorem countSkip_arg3 (s : State) : (countSkip s).arg3 = s.arg3 := rfl
@[simp] theorem countSkip_tickPending (s : State) : (countSkip s).tickPending = s.tickPending := rfl
@[simp] theorem countSkip_env (s : State) : (countSkip s).env = s.env := rfl

@[simp] theorem countUnderrun_cfg (s : State) : (countUnderrun s).cfg = s.cfg := rfl
@[simp] theorem countUnderrun_slots (s : State) : (countUnderrun s).slots = s.slots := rfl
@[simp] theorem countUnderrun_idxEntry (s : State) : (countUnderrun s).idxEntry = s.idxEntry := rfl
@[simp] theorem countUnderrun_idxCount (s : State) : (countUnderrun s).idxCount = s.idxCount := rfl
@[simp] theorem countUnderrun_initOk (s : State) : (countUnderrun s).initOk = s.initOk := rfl
@[simp] theorem countUnderrun_poll (s : State) : (countUnderrun s).poll = s.poll := rfl
@[simp] theorem countUnderrun_sr (s : State) : (countUnderrun s).sr = s.sr := rfl
@[simp] theorem countUnderrun_cap (s : State) : (countUnderrun s).cap = s.cap := rfl
@[simp] theorem countUnderrun_startMsEngine (s : State) : (countUnderrun s).startMsEngine = s.startMsEngine := rfl
@[simp] theorem countUnderrun_accInc (s : State) : (countUnderrun s).accInc = s.accInc := rfl
@[simp] theorem countUnderrun_acc (s : State) : (countUnderrun s).acc = s.acc := rfl
@[simp] theorem countUnderrun_rng (s : State) : (countUnderrun s).rng = s.rng := rfl
@[simp] theorem countUnderrun_diag (s : State) : (countUnderrun s).diag = { s.diag with underruns := s.diag.underruns + 1 } := rfl
@[simp] theorem countUnderrun_snap (s : State) : (countUnderrun s).snap = s.snap := rfl
@[simp] theorem countUnderrun_err (s : State) : (countUnderrun s).err = s.err := rfl
@[simp] theorem countUnderrun_result (s : State) : (countUnderrun s).result = s.result := rfl
@[simp] theorem countUnderrun_arg0 (s : State) : (countUnderrun s).arg0 = s.arg0 := rfl
@[simp] theorem countUnderrun_arg1 (s : State) : (countUnderrun s).arg1 = s.arg1 := rfl
@[simp] theorem countUnderrun_arg2 (s : State) : (countUnderrun s).arg2 = s.arg2 := rfl
@[simp] theorem countUnderrun_arg3 (s : State) : (countUnderrun s).arg3 = s.arg3 := rfl
@[simp] theorem countUnderrun_tickPending (s : State) : (countUnderrun s).tickPending = s.tickPending := rfl
@[simp] theorem countUnderrun_env (s : State) : (countUnderrun s).env = s.env := rfl

@[simp] theorem tickEntry_cfg (s : State) : (tickEntry s).cfg = s.cfg := rfl
@[simp] theorem tickEntry_slots (s : State) : (tickEntry s).slots = s.slots := rfl
@[simp] theorem tickEntry_idxEntry (s : State) : (tickEntry s).idxEntry = s.idxEntry := rfl
@[simp] theorem tickEntry_idxCount (s : State) : (tickEntry s).idxCount = s.idxCount := rfl
@[simp] theorem tickEntry_initOk (s : State) : (tickEntry s).initOk = s.initOk := rfl
@[simp] theorem tickEntry_poll (s : State) : (tickEntry s).poll = s.poll := rfl
@[simp] theorem tickEntry_sr (s : State) : (tickEntry s).sr = s.sr := rfl
@[simp] theorem tickEntry_cap (s : State) : (tickEntry s).cap = s.cap := rfl
@[simp] theorem tickEntry_startMsEngine (s : State) : (tickEntry s).startMsEngine = s.startMsEngine := rfl
@[simp] theorem tickEntry_accInc (s : State) : (tickEntry s).accInc = s.accInc := rfl
@[simp] theorem tickEntry_acc (s : State) : (tickEntry s).acc = accRemainder s.acc s.accInc := rfl
@[simp] theorem tickEntry_rng (s : State) : (tickEntry s).rng = s.rng := rfl
@[simp] theorem tickEntry_diag (s : State) : (tickEntry s).diag = { s.diag with ticks := s.diag.ticks + 1 } := rfl
@[simp] theorem tickEntry_snap (s : State) : (tickEntry s).snap = s.snap := rfl
@[simp] theorem tickEntry_err (s : State) : (tickEntry s).err = s.err := rfl
@[simp] theorem tickEntry_result (s : State) : (tickEntry s).result = s.result := rfl
@[simp] theorem tickEntry_arg0 (s : State) : (tickEntry s).arg0 = s.arg0 := rfl
@[simp] theorem tickEntry_arg1 (s : State) : (tickEntry s).arg1 = s.arg1 := rfl
@[simp] theorem tickEntry_arg2 (s : State) : (tickEntry s).arg2 = s.arg2 := rfl
@[simp] theorem tickEntry_arg3 (s : State) : (tickEntry s).arg3 = s.arg3 := rfl
@[simp] theorem tickEntry_tickPending (s : State) : (tickEntry s).tickPending = false := rfl
@[simp] theorem tickEntry_env (s : State) : (tickEntry s).env = s.env.query := rfl

@[simp] theorem recordRead_cfg (o : Offset) (s : State) : (recordRead o s).cfg = s.cfg := rfl
@[simp] theorem recordRead_slots (o : Offset) (s : State) : (recordRead o s).slots = s.slots := rfl
@[simp] theorem recordRead_idxEntry (o : Offset) (s : State) : (recordRead o s).idxEntry = s.idxEntry := rfl
@[simp] theorem recordRead_idxCount (o : Offset) (s : State) : (recordRead o s).idxCount = s.idxCount := rfl
@[simp] theorem recordRead_initOk (o : Offset) (s : State) : (recordRead o s).initOk = s.initOk := rfl
@[simp] theorem recordRead_poll (o : Offset) (s : State) : (recordRead o s).poll = s.poll := rfl
@[simp] theorem recordRead_sr (o : Offset) (s : State) : (recordRead o s).sr = s.sr := rfl
@[simp] theorem recordRead_cap (o : Offset) (s : State) : (recordRead o s).cap = s.cap := rfl
@[simp] theorem recordRead_startMsEngine (o : Offset) (s : State) : (recordRead o s).startMsEngine = s.startMsEngine := rfl
@[simp] theorem recordRead_accInc (o : Offset) (s : State) : (recordRead o s).accInc = s.accInc := rfl
@[simp] theorem recordRead_acc (o : Offset) (s : State) : (recordRead o s).acc = s.acc := rfl
@[simp] theorem recordRead_rng (o : Offset) (s : State) : (recordRead o s).rng = s.rng := rfl
@[simp] theorem recordRead_diag (o : Offset) (s : State) : (recordRead o s).diag = s.diag := rfl
@[simp] theorem recordRead_snap (o : Offset) (s : State) : (recordRead o s).snap = s.snap := rfl
@[simp] theorem recordRead_err (o : Offset) (s : State) : (recordRead o s).err = s.err := rfl
@[simp] theorem recordRead_result (o : Offset) (s : State) : (recordRead o s).result = s.result := rfl
@[simp] theorem recordRead_arg0 (o : Offset) (s : State) : (recordRead o s).arg0 = s.arg0 := rfl
@[simp] theorem recordRead_arg1 (o : Offset) (s : State) : (recordRead o s).arg1 = s.arg1 := rfl
@[simp] theorem recordRead_arg2 (o : Offset) (s : State) : (recordRead o s).arg2 = s.arg2 := rfl
@[simp] theorem recordRead_arg3 (o : Offset) (s : State) : (recordRead o s).arg3 = s.arg3 := rfl
@[simp] theorem recordRead_tickPending (o : Offset) (s : State) : (recordRead o s).tickPending = s.tickPending := rfl
@[simp] theorem recordRead_env (o : Offset) (s : State) : (recordRead o s).env = { s.env with reads := (o, regRead s o) :: s.env.reads } := rfl

@[simp] theorem resetEngine_cfg (s : State) : (resetEngine s).cfg = s.cfg := rfl
@[simp] theorem resetEngine_slots (s : State) : (resetEngine s).slots = List.replicate s.slots.length Slot.zero := rfl
@[simp] theorem resetEngine_idxEntry (s : State) : (resetEngine s).idxEntry = List.replicate s.idxEntry.length 0 := rfl
@[simp] theorem resetEngine_idxCount (s : State) : (resetEngine s).idxCount = 0 := rfl
@[simp] theorem resetEngine_initOk (s : State) : (resetEngine s).initOk = false := rfl
@[simp] theorem resetEngine_poll (s : State) : (resetEngine s).poll = false := rfl
@[simp] theorem resetEngine_sr (s : State) : (resetEngine s).sr = 0 := rfl
@[simp] theorem resetEngine_cap (s : State) : (resetEngine s).cap = 0 := rfl
@[simp] theorem resetEngine_startMsEngine (s : State) : (resetEngine s).startMsEngine = 0 := rfl
@[simp] theorem resetEngine_accInc (s : State) : (resetEngine s).accInc = 0 := rfl
@[simp] theorem resetEngine_acc (s : State) : (resetEngine s).acc = 0 := rfl
@[simp] theorem resetEngine_rng (s : State) : (resetEngine s).rng = s.cfg.ditherSeed := rfl
@[simp] theorem resetEngine_diag (s : State) : (resetEngine s).diag = Counters.zero := rfl
@[simp] theorem resetEngine_snap (s : State) : (resetEngine s).snap = Counters.zero := rfl
@[simp] theorem resetEngine_err (s : State) : (resetEngine s).err = s.err := rfl
@[simp] theorem resetEngine_result (s : State) : (resetEngine s).result = s.result := rfl
@[simp] theorem resetEngine_arg0 (s : State) : (resetEngine s).arg0 = s.arg0 := rfl
@[simp] theorem resetEngine_arg1 (s : State) : (resetEngine s).arg1 = s.arg1 := rfl
@[simp] theorem resetEngine_arg2 (s : State) : (resetEngine s).arg2 = s.arg2 := rfl
@[simp] theorem resetEngine_arg3 (s : State) : (resetEngine s).arg3 = s.arg3 := rfl
@[simp] theorem resetEngine_tickPending (s : State) : (resetEngine s).tickPending = false := rfl
@[simp] theorem resetEngine_env (s : State) : (resetEngine s).env = s.env := rfl

@[simp] theorem bringUp_cfg (s : State) : (bringUp s).cfg = s.cfg := rfl
@[simp] theorem bringUp_slots (s : State) : (bringUp s).slots = s.slots := rfl
@[simp] theorem bringUp_idxEntry (s : State) : (bringUp s).idxEntry = s.idxEntry := rfl
@[simp] theorem bringUp_idxCount (s : State) : (bringUp s).idxCount = s.idxCount := rfl
@[simp] theorem bringUp_initOk (s : State) : (bringUp s).initOk = (true) := rfl
@[simp] theorem bringUp_poll (s : State) : (bringUp s).poll = (!s.env.timerOk) := rfl
@[simp] theorem bringUp_sr (s : State) : (bringUp s).sr = (s.arg0) := rfl
@[simp] theorem bringUp_cap (s : State) : (bringUp s).cap = (s.env.beginCap) := rfl
@[simp] theorem bringUp_startMsEngine (s : State) : (bringUp s).startMsEngine = (s.env.now) := rfl
@[simp] theorem bringUp_accInc (s : State) : (bringUp s).accInc = (pacingIncrement s.cfg s.arg0) := rfl
@[simp] theorem bringUp_acc (s : State) : (bringUp s).acc = s.acc := rfl
@[simp] theorem bringUp_rng (s : State) : (bringUp s).rng = s.rng := rfl
@[simp] theorem bringUp_diag (s : State) : (bringUp s).diag = s.diag := rfl
@[simp] theorem bringUp_snap (s : State) : (bringUp s).snap = s.snap := rfl
@[simp] theorem bringUp_err (s : State) : (bringUp s).err = s.err := rfl
@[simp] theorem bringUp_result (s : State) : (bringUp s).result = s.result := rfl
@[simp] theorem bringUp_arg0 (s : State) : (bringUp s).arg0 = s.arg0 := rfl
@[simp] theorem bringUp_arg1 (s : State) : (bringUp s).arg1 = s.arg1 := rfl
@[simp] theorem bringUp_arg2 (s : State) : (bringUp s).arg2 = s.arg2 := rfl
@[simp] theorem bringUp_arg3 (s : State) : (bringUp s).arg3 = s.arg3 := rfl
@[simp] theorem bringUp_tickPending (s : State) : (bringUp s).tickPending = s.tickPending := rfl
@[simp] theorem bringUp_env (s : State) : (bringUp s).env = (s.env.register (timerPeriod s.cfg)) := rfl

@[simp] theorem Env.begin_now (e : Env) (sr req : Word) : (e.begin sr req).now = e.now := rfl
@[simp] theorem Env.begin_tpCap (e : Env) (sr req : Word) : (e.begin sr req).tpCap = (if e.beginOk then e.beginCap else e.tpCap) := rfl
@[simp] theorem Env.begin_tpFree (e : Env) (sr req : Word) : (e.begin sr req).tpFree = (e.beginFree.getD e.tpFree) := rfl
@[simp] theorem Env.begin_frees (e : Env) (sr req : Word) : (e.begin sr req).frees = e.frees := rfl
@[simp] theorem Env.begin_beginOk (e : Env) (sr req : Word) : (e.begin sr req).beginOk = e.beginOk := rfl
@[simp] theorem Env.begin_beginCap (e : Env) (sr req : Word) : (e.begin sr req).beginCap = e.beginCap := rfl
@[simp] theorem Env.begin_beginFree (e : Env) (sr req : Word) : (e.begin sr req).beginFree = e.beginFree := rfl
@[simp] theorem Env.begin_timerOk (e : Env) (sr req : Word) : (e.begin sr req).timerOk = e.timerOk := rfl
@[simp] theorem Env.begin_program (e : Env) (sr req : Word) : (e.begin sr req).program = e.program := rfl
@[simp] theorem Env.begin_calls (e : Env) (sr req : Word) : (e.begin sr req).calls = (.tpBegin sr req :: e.calls) := rfl
@[simp] theorem Env.begin_reads (e : Env) (sr req : Word) : (e.begin sr req).reads = e.reads := rfl

@[simp] theorem Env.register_now (e : Env) (p : Word) : (e.register p).now = e.now := rfl
@[simp] theorem Env.register_tpCap (e : Env) (p : Word) : (e.register p).tpCap = e.tpCap := rfl
@[simp] theorem Env.register_tpFree (e : Env) (p : Word) : (e.register p).tpFree = e.tpFree := rfl
@[simp] theorem Env.register_frees (e : Env) (p : Word) : (e.register p).frees = e.frees := rfl
@[simp] theorem Env.register_beginOk (e : Env) (p : Word) : (e.register p).beginOk = e.beginOk := rfl
@[simp] theorem Env.register_beginCap (e : Env) (p : Word) : (e.register p).beginCap = e.beginCap := rfl
@[simp] theorem Env.register_beginFree (e : Env) (p : Word) : (e.register p).beginFree = e.beginFree := rfl
@[simp] theorem Env.register_timerOk (e : Env) (p : Word) : (e.register p).timerOk = e.timerOk := rfl
@[simp] theorem Env.register_program (e : Env) (p : Word) : (e.register p).program = e.program := rfl
@[simp] theorem Env.register_calls (e : Env) (p : Word) : (e.register p).calls = (.tmRegister p :: e.calls) := rfl
@[simp] theorem Env.register_reads (e : Env) (p : Word) : (e.register p).reads = e.reads := rfl

@[simp] theorem armNow_phase (sl : Slot) : (armNow sl).phase = 0 := rfl
@[simp] theorem armNow_inc (sl : Slot) : (armNow sl).inc = sl.inc := rfl
@[simp] theorem armNow_amp (sl : Slot) : (armNow sl).amp = sl.amp := rfl
@[simp] theorem armNow_env (sl : Slot) : (armNow sl).env = sl.env := rfl
@[simp] theorem armNow_dur (sl : Slot) : (armNow sl).dur = sl.dur := rfl
@[simp] theorem armNow_played (sl : Slot) : (armNow sl).played = 0 := rfl
@[simp] theorem armNow_startMs (sl : Slot) : (armNow sl).startMs = sl.startMs := rfl
@[simp] theorem armNow_active (sl : Slot) : (armNow sl).active = true := rfl
@[simp] theorem armNow_scheduled (sl : Slot) : (armNow sl).scheduled = false := rfl

@[simp] theorem armDelayed_phase (now d : Word) (sl : Slot) : (armDelayed now d sl).phase = sl.phase := rfl
@[simp] theorem armDelayed_inc (now d : Word) (sl : Slot) : (armDelayed now d sl).inc = sl.inc := rfl
@[simp] theorem armDelayed_amp (now d : Word) (sl : Slot) : (armDelayed now d sl).amp = sl.amp := rfl
@[simp] theorem armDelayed_env (now d : Word) (sl : Slot) : (armDelayed now d sl).env = sl.env := rfl
@[simp] theorem armDelayed_dur (now d : Word) (sl : Slot) : (armDelayed now d sl).dur = sl.dur := rfl
@[simp] theorem armDelayed_played (now d : Word) (sl : Slot) : (armDelayed now d sl).played = sl.played := rfl
@[simp] theorem armDelayed_startMs (now d : Word) (sl : Slot) : (armDelayed now d sl).startMs = now + d := rfl
@[simp] theorem armDelayed_active (now d : Word) (sl : Slot) : (armDelayed now d sl).active = false := rfl
@[simp] theorem armDelayed_scheduled (now d : Word) (sl : Slot) : (armDelayed now d sl).scheduled = true := rfl

@[simp] theorem activated_phase (sl : Slot) : (activated sl).phase = 0 := rfl
@[simp] theorem activated_inc (sl : Slot) : (activated sl).inc = sl.inc := rfl
@[simp] theorem activated_amp (sl : Slot) : (activated sl).amp = sl.amp := rfl
@[simp] theorem activated_env (sl : Slot) : (activated sl).env = 0 := rfl
@[simp] theorem activated_dur (sl : Slot) : (activated sl).dur = sl.dur := rfl
@[simp] theorem activated_played (sl : Slot) : (activated sl).played = 0 := rfl
@[simp] theorem activated_startMs (sl : Slot) : (activated sl).startMs = sl.startMs := rfl
@[simp] theorem activated_active (sl : Slot) : (activated sl).active = true := rfl
@[simp] theorem activated_scheduled (sl : Slot) : (activated sl).scheduled = false := rfl

@[simp] theorem advance_phase (p : Params) (sl : Slot) : (advance p sl).phase = sl.phase + sl.inc := rfl
@[simp] theorem advance_inc (p : Params) (sl : Slot) : (advance p sl).inc = sl.inc := rfl
@[simp] theorem advance_amp (p : Params) (sl : Slot) : (advance p sl).amp = sl.amp := rfl
@[simp] theorem advance_env (p : Params) (sl : Slot) : (advance p sl).env = BitVec.ofNat 9 (nextEnvelope p sl) := rfl
@[simp] theorem advance_dur (p : Params) (sl : Slot) : (advance p sl).dur = sl.dur := rfl
@[simp] theorem advance_played (p : Params) (sl : Slot) : (advance p sl).played = sl.played + 1 := rfl
@[simp] theorem advance_startMs (p : Params) (sl : Slot) : (advance p sl).startMs = sl.startMs := rfl
@[simp] theorem advance_active (p : Params) (sl : Slot) : (advance p sl).active = (sl.active && !(sl.dur != 0 && sl.played + 1 == sl.dur)) := rfl
@[simp] theorem advance_scheduled (p : Params) (sl : Slot) : (advance p sl).scheduled = sl.scheduled := rfl

end Sys2Proof.Machine
end

