-- ==== Sys2Proof/Laws/Ops.lean ====
section
/-! SUPPORT. What each shared operation can do, said once: the index, the slots' transitions, the transport. -/

namespace Sys2Proof.Machine

/-! ## Arithmetic -/

theorem asr_eq_ediv (v : Int) (n : Nat) : asr v n = v / 2 ^ n :=
  Int.fdiv_eq_ediv_of_nonneg v (by positivity)

theorem u32_toNat (v : Nat) (h : v ≤ 0xFFFFFFFF) : (u32 v).toNat = v := by
  simp only [u32, BitVec.toNat_ofNat]; omega

/-! ## The index -/

theorem mem_busySlots {slots : List Slot} {i : Nat} :
    i ∈ busySlots slots ↔ i < slots.length ∧ (slots.getD i Slot.zero).isBusy = true := by
  simp [busySlots]

theorem busySlots_ascending (slots : List Slot) : (busySlots slots).Pairwise (· < ·) :=
  List.Pairwise.filter _ List.pairwise_lt_range

theorem busySlots_length_le (slots : List Slot) : (busySlots slots).length ≤ slots.length := by
  simpa [busySlots] using List.length_filter_le (fun i => (slots.getD i Slot.zero).isBusy) (List.range slots.length)

theorem map_toNat_ofNat8 (l : List Nat) (h : ∀ i ∈ l, i < 256) :
    (l.map (BitVec.ofNat 8)).map BitVec.toNat = l := by
  induction l with
  | nil => rfl
  | cons a l ih =>
    have ha := h a (by simp)
    simp only [List.map_cons, BitVec.toNat_ofNat, List.cons.injEq]
    exact ⟨by omega, ih (fun i hi => h i (by simp [hi]))⟩

/-- A rebuild publishes the busy slots. -/
theorem publishedNumbers_rebuild (s : State) (h : s.slots.length ≤ 255) :
    publishedNumbers (rebuild s) = busySlots s.slots := by
  have hl := busySlots_length_le s.slots
  have hc : ((busySlots s.slots).length % 2 ^ 8) = (busySlots s.slots).length := by
    apply Nat.mod_eq_of_lt; omega
  have ht : publishedEntries (rebuild s) = (busySlots s.slots).map (BitVec.ofNat 8) := by
    simp only [publishedEntries, rebuild, BitVec.toNat_ofNat, List.length_map, hc]
    exact List.take_left' (List.length_map _)
  rw [publishedNumbers, ht]
  apply map_toNat_ofNat8
  intro i hi
  have := (mem_busySlots.1 hi).1
  omega

theorem rebuild_count (s : State) (h : s.slots.length ≤ 255) :
    (rebuild s).idxCount.toNat = (busySlots s.slots).length := by
  have hl := busySlots_length_le s.slots
  simp only [rebuild, BitVec.toNat_ofNat, List.length_map]
  apply Nat.mod_eq_of_lt; omega

theorem rebuild_listsExactlyBusy (s : State) (h : s.slots.length ≤ 255) : ListsExactlyBusy (rebuild s) where
  ascending := by rw [publishedNumbers_rebuild s h]; exact busySlots_ascending _
  exactly i := by rw [publishedNumbers_rebuild s h]; simpa using mem_busySlots

theorem rebuild_keepsUnpublished (s : State) (h : s.slots.length ≤ 255) : KeepsUnpublished s (rebuild s) := by
  intro j hj
  rw [rebuild_count s h] at hj
  simp only [rebuild, List.length_map]
  rw [List.getElem?_append_right (by simpa using hj)]
  simp only [List.length_map, List.getElem?_drop]
  congr 1; omega

theorem rebuild_idxEntry_length (s : State) (h : s.idxEntry.length = s.slots.length) :
    (rebuild s).idxEntry.length = s.slots.length := by
  have hl := busySlots_length_le s.slots
  simp [rebuild]; omega

theorem rebuild_indexOk (s : State) (h : s.slots.length ≤ 255) : IndexOk (rebuild s) where
  count := by rw [rebuild_count s h]; exact busySlots_length_le _
  ascending := (rebuild_listsExactlyBusy s h).ascending
  inBank i hi := (((rebuild_listsExactlyBusy s h).exactly i).1 hi).1
  listsBusy i hi hb := ((rebuild_listsExactlyBusy s h).exactly i).2 ⟨hi, hb⟩

theorem firstFree_eq_some {slots : List Slot} {i : Nat} :
    firstFree slots = some i ↔
      ∃ h : i < slots.length, slots[i].isIdle = true ∧ ∀ (j : Nat) (hj : j < i), slots[j].isIdle = false := by
  simp [firstFree, List.findIdx?_eq_some_iff_getElem]

theorem firstFree_eq_none {slots : List Slot} : firstFree slots = none ↔ ∀ sl ∈ slots, sl.isIdle = false := by
  simp [firstFree]

/-! ## The slots' transitions -/

theorem armed_immediate (now : Word) (o : ArmOperands) (sl : Slot) (h : o.delay.toNat = 0) :
    armed now o sl = armNow { sl with inc := o.inc, amp := o.amp, dur := o.dur, env := 0 } := by
  simp [armed, h]

theorem armed_delayed (now : Word) (o : ArmOperands) (sl : Slot) (h : 0 < o.delay.toNat) :
    armed now o sl = armDelayed now o.delay { sl with inc := o.inc, amp := o.amp, dur := o.dur, env := 0 } := by
  simp [armed, h]

theorem fadeOut_eq_fading (p : Params) (sl : Slot) : fadeOut p sl = fading p.fadeLen sl := by
  have h : sl.played.toNat + p.fadeLen ≤ 0xFFFFFFFF ↔ sl.played.toNat + p.fadeLen < 2 ^ 32 := by omega
  simp only [fadeOut, fading, h, u32]

theorem elapsed_iff (now t : Word) : elapsed now t = true ↔ 0 ≤ (now - t).toInt := by simp [elapsed]

theorem isDue_iff (now : Word) (sl : Slot) : isDue now sl = true ↔ StartDue now sl := by
  simp [isDue, StartDue, elapsed_iff]

/-! ## The operands -/

theorem volumeLegal_iff (v : Word) : volumeLegal v = true ↔ v.toNat ≤ 255 := by
  simp only [volumeLegal, beq_iff_eq]
  constructor
  · intro h
    have := congrArg BitVec.toNat h
    simp [BitVec.extractLsb'_toNat, Nat.shiftRight_eq_div_pow] at this
    have := v.isLt
    omega
  · intro h
    apply BitVec.eq_of_toNat_eq
    simp [BitVec.extractLsb'_toNat, Nat.shiftRight_eq_div_pow]
    omega

theorem volumeOf_eq (v : Word) : volumeOf v = BitVec.ofNat 8 v.toNat := by
  apply BitVec.eq_of_toNat_eq
  simp [volumeOf, BitVec.extractLsb'_toNat]

/-- The operands pass exactly the four checks of R111, in either variant. -/
theorem armOperands_eq_some (isCh : Bool) (s : State) (h : OperandsLegal s (effectiveFreq s.cfg isCh s.arg0)) :
    armOperands isCh s = some
      { inc := BitVec.ofNat 32
          ((2 * (effectiveFreq s.cfg isCh s.arg0 * 65536) + s.sr.toNat) / (2 * s.sr.toNat))
        amp := BitVec.ofNat 8 s.arg1.toNat
        dur := BitVec.ofNat 32 (s.arg2.toNat * s.sr.toNat / 1000)
        delay := s.arg3 } := by
  obtain ⟨h1, h2, h3, h4⟩ := h
  have h2' := (volumeLegal_iff s.arg1).2 h2
  have h4' : delayLegal s.arg3 = true := by simpa [delayLegal] using h4
  simp [armOperands, computeInc, roundHalfUp, durationSamples, fitsWord, h1, h2', h3, h4', volumeOf_eq, u32]

theorem armOperands_eq_none (isCh : Bool) (s : State) (h : ¬OperandsLegal s (effectiveFreq s.cfg isCh s.arg0)) :
    armOperands isCh s = none := by
  simp only [OperandsLegal, ← volumeLegal_iff] at h
  simp only [armOperands, computeInc, roundHalfUp, durationSamples, fitsWord]
  by_cases h1 : (2 * (effectiveFreq s.cfg isCh s.arg0 * 65536) + s.sr.toNat) / (2 * s.sr.toNat) ≤ 0xFFFFFFFF
  · by_cases h2 : volumeLegal s.arg1 = true
    · by_cases h3 : s.arg2.toNat * s.sr.toNat / 1000 ≤ 0xFFFFFFFF
      · have h4 : ¬ delayLegal s.arg3 = true := fun h4 => h ⟨h1, h2, h3, by simpa [delayLegal] using h4⟩
        simp [h1, h2, h3, h4]
      · simp [h1, h2, h3]
    · simp [h1, h2]
  · simp [h1]

theorem effectiveFreq_play (p : Params) (f : Word) : effectiveFreq p false f = f.toNat := rfl

theorem effectiveFreq_playCh (p : Params) (f : Word) :
    effectiveFreq p true f = f.toNat * p.freqCompQ16 / 65536 := rfl

/-- What an armed slot holds, in the words of the statements. -/
theorem armed_eq_toneArmed (s : State) (f : Nat) (o : ArmOperands) (sl : Slot)
    (hi : o.inc = BitVec.ofNat 32 ((2 * (f * 65536) + s.sr.toNat) / (2 * s.sr.toNat)))
    (ha : o.amp = BitVec.ofNat 8 s.arg1.toNat)
    (hd : o.dur = BitVec.ofNat 32 (s.arg2.toNat * s.sr.toNat / 1000)) (hl : o.delay = s.arg3) :
    armed s.env.now o sl = toneArmed s f sl := by
  by_cases h : s.arg3 = 0
  · rw [armed_immediate _ _ _ (by simp [hl, h])]
    simp [armNow, toneArmed, toneSlot, h, hi, ha, hd]
  · have : 0 < o.delay.toNat := by
      rw [hl]; rcases Nat.eq_zero_or_pos s.arg3.toNat with h0 | h0
      · exact absurd (BitVec.eq_of_toNat_eq (by simpa using h0)) h
      · exact h0
    rw [armed_delayed _ _ _ this]
    simp only [armDelayed, toneArmed, toneSlot, h, if_false, hi, ha, hd, hl]

/-! ## The transport -/

theorem freedBy_toNat (cap free d : Word) :
    (freedBy cap free d).toNat = free.toNat + min d.toNat (cap.toNat - free.toNat) := by
  apply u32_toNat
  have := cap.isLt; have := free.isLt
  omega

theorem space_toNat (e : Env) : e.space.toNat = min e.tpFree.toNat e.tpCap.toNat := by
  unfold Env.space; split <;> omega

/-- The free space is within the capacity in every state (R80). -/
theorem space_le_cap (e : Env) : e.space.toNat ≤ e.tpCap.toNat := by rw [space_toNat]; omega

/-- The consumer changes the free space, never downwards, and its draws; nothing else. -/
theorem consume_spec (e : Env) :
    e.consume = { e with tpFree := e.consume.tpFree, frees := e.frees.tail } ∧
      e.space.toNat ≤ e.consume.space.toNat := by
  rcases e with ⟨now, tpCap, tpFree, frees, bOk, bCap, bFree, tOk, program, calls, reads⟩
  cases frees with
  | nil => simp [Env.consume]
  | cons d ds =>
    simp only [Env.consume, List.tail_cons, true_and, space_toNat, freedBy_toNat]
    omega

/-- Without draws the consumer does nothing. -/
theorem consume_of_no_draws (e : Env) (h : e.frees = []) : e.consume = e := by
  simp [Env.consume, h]

/-- A space query changes the free space, the draws and the record of calls; nothing else. -/
theorem query_spec (e : Env) :
    e.query = { e with tpFree := e.query.tpFree, frees := e.frees.tail, calls := .tpAvail :: e.calls } := by
  unfold Env.query
  rw [(consume_spec e).1]

@[simp] theorem write_tpCap (e : Env) (v : Sample) : (e.write v).tpCap = e.tpCap := rfl
@[simp] theorem write_frees (e : Env) (v : Sample) : (e.write v).frees = e.frees := rfl
@[simp] theorem write_calls (e : Env) (v : Sample) : (e.write v).calls = .tpWrite v :: e.calls := rfl

/-- A write takes two bytes of the free space. -/
theorem write_space (e : Env) (v : Sample) : (e.write v).space.toNat = e.space.toNat - 2 := by
  have h := space_le_cap e
  have hu : (u32 (e.space.toNat - 2)).toNat = e.space.toNat - 2 := by
    apply u32_toNat; have := e.space.isLt; omega
  rw [space_toNat, write_tpCap]
  show min (u32 (e.space.toNat - 2)).toNat _ = _
  rw [hu]; omega

/-- A frame is written wherever four bytes are free: the block's own check suffices (X2). -/
theorem writeFrame_eq_some (v : Int) (s : State) (h : 4 ≤ s.env.space.toNat) :
    writeFrame v s = some (s.withEnv ((s.env.write (BitVec.ofInt 16 v)).write (BitVec.ofInt 16 v))) := by
  have h1 : ¬ s.env.space.toNat < 2 := by omega
  have h2 : ¬ (s.env.write (BitVec.ofInt 16 v)).space.toNat < 2 := by rw [write_space]; omega
  simp only [writeFrame, tpWrite, h1, if_false, Option.bind_some, withEnv_env, h2]
  rfl

/-! ## The record of calls, and a step cut off -/

theorem callsBetween_eq {before after : Env} {cs : List PortCall}
    (h : after.calls = cs.reverse ++ before.calls) : callsBetween before after = cs := by
  rw [callsBetween, h, List.length_append, Nat.add_sub_cancel, List.take_left, List.reverse_reverse]

/-- What a call of the block can change of the world. -/
theorem call_spec (e : Env) (c : PortCall) :
    e.call c = { e with
      tpCap := (e.call c).tpCap, tpFree := (e.call c).tpFree, frees := (e.call c).frees, calls := c :: e.calls } := by
  cases c with
  | tpAvail => simp only [Env.call]; rw [query_spec e]
  | _ => rfl

/-- An abandoned step leaves a reset block and the world after the calls it had made. -/
theorem abandonAfter_eq (k : Nat) {s t : State} {cs : List PortCall} (h : t.env.calls = cs.reverse ++ s.env.calls) :
    abandonAfter k s t = (blockReset s).withEnv ((cs.take k).foldl Env.call s.env) := by
  rw [abandonAfter, callsBetween_eq h]

end Sys2Proof.Machine
end

