-- ==== Sys2Proof/Laws/Mixer.lean ====
section
/-! SUPPORT. What a frame can do: the slot loop, said once, and the state a frame leaves. -/

namespace Sys2Proof.Machine

/-! ## One pass of the slot loop -/

/-- A pass either leaves everything or advances one active slot of the bank. -/
theorem mixEntry_cases (p : Params) (m : Mix) (e : SlotNo) :
    mixEntry p m e = m ∨
      ∃ sl, m.slots[e.toNat]? = some sl ∧ sl.active = true ∧
        (mixEntry p m e).slots = m.slots.set e.toNat (advance p sl) := by
  unfold mixEntry
  split
  · exact .inl rfl
  · next sl h =>
    by_cases ha : sl.active = true
    · exact .inr ⟨sl, h, ha, by simp [ha]⟩
    · exact .inl (by simp [ha])

theorem mixEntry_length (p : Params) (m : Mix) (e : SlotNo) :
    (mixEntry p m e).slots.length = m.slots.length := by
  rcases mixEntry_cases p m e with h | ⟨sl, -, -, h⟩
  · rw [h]
  · rw [h, List.length_set]

/-- Whatever an active slot's advance keeps, a pass keeps of the whole bank. -/
theorem mixEntry_keeps {P : Slot → Prop} {p : Params} {m : Mix} {e : SlotNo}
    (step : ∀ sl, P sl → sl.active = true → P (advance p sl)) (h : ∀ sl ∈ m.slots, P sl) :
    ∀ sl ∈ (mixEntry p m e).slots, P sl := by
  rcases mixEntry_cases p m e with he | ⟨sl, hsl, ha, he⟩
  · rwa [he]
  · rw [he]
    intro x hx
    rcases List.mem_or_eq_of_mem_set hx with hx | rfl
    · exact h x hx
    · exact step sl (h sl (List.mem_of_getElem? hsl)) ha

/-! ## The slot loop -/

theorem mixLoop_length (p : Params) (es : List SlotNo) (m : Mix) :
    (es.foldl (mixEntry p) m).slots.length = m.slots.length := by
  induction es generalizing m with
  | nil => rfl
  | cons e es ih => rw [List.foldl_cons, ih, mixEntry_length]

theorem mixLoop_keeps {P : Slot → Prop} {p : Params}
    (step : ∀ sl, P sl → sl.active = true → P (advance p sl)) (es : List SlotNo) (m : Mix)
    (h : ∀ sl ∈ m.slots, P sl) : ∀ sl ∈ (es.foldl (mixEntry p) m).slots, P sl := by
  induction es generalizing m with
  | nil => exact h
  | cons e es ih => exact ih _ (mixEntry_keeps step h)

/-- Slot by slot, the loop only advances: any relation that holds of a slot and itself and follows an advance of an
active slot holds of each slot before and after. -/
theorem mixLoop_rel {R : Slot → Slot → Prop} {p : Params}
    (refl : ∀ sl, R sl sl) (step : ∀ a b, R a b → b.active = true → R a (advance p b))
    (es : List SlotNo) (m : Mix) (i : Nat) (a b : Slot)
    (ha : m.slots[i]? = some a) (hb : (es.foldl (mixEntry p) m).slots[i]? = some b) : R a b := by
  suffices h : ∀ (es : List SlotNo) (m : Mix) (c : Slot), m.slots[i]? = some c → R a c →
      (es.foldl (mixEntry p) m).slots[i]? = some b → R a b from h es m a ha (refl a) hb
  intro es
  induction es with
  | nil =>
    intro m c hc hr hb
    simp only [List.foldl_nil] at hb
    rw [hc] at hb
    cases hb
    exact hr
  | cons e es ih =>
    intro m c hc hr hb
    rw [List.foldl_cons] at hb
    rcases mixEntry_cases p m e with he | ⟨sl, hsl, hact, he⟩
    · exact ih _ c (by rw [he]; exact hc) hr hb
    · by_cases hei : e.toNat = i
      · subst hei
        rw [hsl] at hc
        cases hc
        refine ih _ (advance p c) ?_ (step _ _ hr hact) hb
        rw [he, List.getElem?_set_self (List.getElem?_eq_some_iff.1 hsl).1]
      · exact ih _ c (by rw [he, List.getElem?_set_ne hei]; exact hc) hr hb

/-- A slot that no entry names is left as it was. -/
theorem mixLoop_unlisted (p : Params) (es : List SlotNo) (m : Mix) (i : Nat) (h : ∀ e ∈ es, e.toNat ≠ i) :
    (es.foldl (mixEntry p) m).slots[i]? = m.slots[i]? := by
  induction es generalizing m with
  | nil => rfl
  | cons e es ih =>
    rw [List.foldl_cons, ih _ (fun x hx => h x (by simp [hx]))]
    rcases mixEntry_cases p m e with he | ⟨sl, -, -, he⟩
    · rw [he]
    · rw [he, List.getElem?_set_ne (h e (by simp))]

@[simp] theorem mixSlots_length (s : State) : (mixSlots s).slots.length = s.slots.length :=
  mixLoop_length _ _ _

theorem mixFrame_keeps {P : Slot → Prop} {s : State}
    (step : ∀ sl, P sl → sl.active = true → P (advance s.cfg sl)) (h : ∀ sl ∈ s.slots, P sl) :
    ∀ sl ∈ (mixFrame s).slots, P sl := mixLoop_keeps step _ _ h

/-! ## The output value -/

theorem outputSample_range (p : Params) (sum : Int) (n : Nat) (rng : Word) :
    -32768 ≤ outputSample p sum n rng ∧ outputSample p sum n rng ≤ 32767 := by
  simp only [outputSample, clamp]; omega

/-! ## The state a frame leaves -/

/-- The state after a frame where four bytes are free. -/
def afterFrame (s : State) : State :=
  (mixFrame s).withEnv
    ((s.env.write (BitVec.ofInt 16 (frameValue s))).write (BitVec.ofInt 16 (frameValue s)))

/-- A frame is put wherever four bytes are free: the mixed state, the sample written twice. -/
theorem putFrame_eq_some (s : State) (h : 4 ≤ s.env.space.toNat) : putFrame s = some (afterFrame s) := by
  rw [putFrame, writeFrame_eq_some _ _ (by simpa using h)]
  rfl

end Sys2Proof.Machine
end

