-- ==== Sys2Proof/Laws/Pacing.lean ====
section
/-! SUPPORT. What the pacing loops can do: each completes, each keeps what a frame and the consumer keep, and each
writes whole frames. -/

namespace Sys2Proof.Machine

/-! ## Each loop completes -/

theorem burst_completes (k : Nat) (s : State) : ∃ t, burst k s = some t := by
  induction k generalizing s with
  | zero => exact ⟨s, rfl⟩
  | succ k ih =>
    by_cases h : tpAvail (query s) < 4
    · exact ⟨query s, by simp [burst, h]⟩
    · have hp := putFrame_eq_some (query s) (by simpa [tpAvail] using h)
      simp only [burst, h, if_false, hp, Option.bind_some]
      exact ih _

theorem normalLoop_completes (k : Nat) (s : State) : ∃ t, normalLoop k s = some t := by
  induction k generalizing s with
  | zero => exact ⟨s, rfl⟩
  | succ k ih =>
    by_cases h : 4 ≤ tpAvail (query s)
    · simp only [normalLoop, h, if_true, putFrame_eq_some (query s) h, Option.bind_some]
      exact ih _
    · simp only [normalLoop, h, if_false]
      exact ih _

theorem drainLoop_completes (k : Nat) (s : State) : ∃ t, drainLoop k s = some t := by
  induction k generalizing s with
  | zero => exact ⟨s, rfl⟩
  | succ k ih =>
    by_cases h : tpAvail (query s) < 4
    · exact ⟨query s, by simp [drainLoop, h]⟩
    · have hp := putFrame_eq_some (query s) (by simpa [tpAvail] using h)
      simp only [drainLoop, h, if_false, hp, Option.bind_some]
      exact ih _

/-! ## What each loop keeps -/

theorem burst_keeps {P : State → Prop} (hc : ∀ s, P s → P (query s)) (hf : ∀ s, P s → P (afterFrame s))
    (hr : ∀ s, P s → P (countRecovery s)) {k : Nat} {s t : State} (h : P s) (ht : burst k s = some t) : P t := by
  induction k generalizing s with
  | zero => cases ht; exact h
  | succ k ih =>
    by_cases ha : tpAvail (query s) < 4
    · simp only [burst, ha, if_true, Option.some.injEq] at ht
      exact ht ▸ hc s h
    · simp only [burst, ha, if_false, putFrame_eq_some (query s) (by simpa [tpAvail] using ha),
        Option.bind_some] at ht
      exact ih (hr _ (hf _ (hc s h))) ht

theorem normalLoop_keeps {P : State → Prop} (hc : ∀ s, P s → P (query s)) (hf : ∀ s, P s → P (afterFrame s))
    (hs : ∀ s, P s → P (countSkip s)) {k : Nat} {s t : State} (h : P s) (ht : normalLoop k s = some t) : P t := by
  induction k generalizing s with
  | zero => cases ht; exact h
  | succ k ih =>
    by_cases ha : 4 ≤ tpAvail (query s)
    · simp only [normalLoop, ha, if_true, putFrame_eq_some (query s) ha, Option.bind_some] at ht
      exact ih (hf _ (hc s h)) ht
    · simp only [normalLoop, ha, if_false] at ht
      exact ih (hs _ (hc s h)) ht

theorem drainLoop_keeps {P : State → Prop} (hc : ∀ s, P s → P (query s)) (hf : ∀ s, P s → P (afterFrame s))
    {k : Nat} {s t : State} (h : P s) (ht : drainLoop k s = some t) : P t := by
  induction k generalizing s with
  | zero => cases ht; exact h
  | succ k ih =>
    by_cases ha : tpAvail (query s) < 4
    · simp only [drainLoop, ha, if_true, Option.some.injEq] at ht
      exact ht ▸ hc s h
    · simp only [drainLoop, ha, if_false, putFrame_eq_some (query s) (by simpa [tpAvail] using ha),
        Option.bind_some] at ht
      exact ih (hf _ (hc s h)) ht

/-! ## The tick step and the drain -/

theorem emergency_completes (f0 : Nat) (s : State) : ∃ t, emergency f0 s = some t := by
  unfold emergency
  split
  · exact burst_completes _ _
  · exact ⟨s, rfl⟩

theorem tickStep_completes (s : State) : ∃ t, tickStep s = some t := by
  obtain ⟨u, hu⟩ := emergency_completes (tpAvail (tickEntry s)) (tickEntry s)
  obtain ⟨t, ht⟩ := normalLoop_completes (framesDue s (tpAvail (tickEntry s))) u
  exact ⟨t, by simp [tickStep, hu, ht]⟩

theorem pollDrain_completes (s : State) : ∃ t, pollDrain s = some t := drainLoop_completes _ _

/-- Whatever the consumer, a frame and each counter keep, the tick step keeps from its entry on. -/
theorem tickStep_keeps {P : State → Prop} (hc : ∀ s, P s → P (query s)) (hf : ∀ s, P s → P (afterFrame s))
    (hr : ∀ s, P s → P (countRecovery s)) (hs : ∀ s, P s → P (countSkip s)) (hu : ∀ s, P s → P (countUnderrun s))
    {s t : State} (h : P (tickEntry s)) (ht : tickStep s = some t) : P t := by
  obtain ⟨u, hu'⟩ := emergency_completes (tpAvail (tickEntry s)) (tickEntry s)
  simp only [tickStep, hu', Option.bind_some] at ht
  refine normalLoop_keeps hc hf hs ?_ ht
  unfold emergency at hu'
  split at hu'
  · exact burst_keeps hc hf hr (hu _ h) hu'
  · cases hu'; exact h

/-- A tick step answers the tick step's state. -/
theorem exec_tick_eq (s : State) : ∃ t, tickStep s = some t ∧ exec .tick s = .next t := by
  obtain ⟨t, ht⟩ := tickStep_completes s
  exact ⟨t, ht, by simp [exec, execTick, ht]⟩

/-- In polling mode UPDATE drains after its sweep. -/
theorem exec_update_poll_eq (s : State) (hi : s.initOk = true) (hp : s.poll = true) :
    ∃ t, pollDrain (sweep s) = some t ∧ exec .update s = .next (finish (u32 (dueCount s)) t) := by
  obtain ⟨t, ht⟩ := pollDrain_completes (sweep s)
  exact ⟨t, ht, by simp [exec, execUpdate, hi, hp, ht]⟩

end Sys2Proof.Machine
end

