-- ==== Sys2Proof/Laws/Step.lean ====
section
/-! SUPPORT. What a step can do, said once: the pending tick, the next action, nothing; and the decoder's fields. -/

namespace Sys2Proof

/-! ## The decoder -/

theorem commandWord_toNat (s : SlotNo) (o : Byte) : (commandWord s o).toNat = s.toNat * 256 + o.toNat := by
  have h : (commandWord s o).toNat = ((0#16 ++ s : BitVec 24) ++ o : BitVec (24 + 8)).toNat := rfl
  have h2 : (0#16 ++ s : BitVec (16 + 8)).toNat = s.toNat := by
    rw [BitVec.toNat_append, BitVec.toNat_ofNat]; simp
  rw [h, BitVec.toNat_append, ← Nat.shiftLeft_add_eq_or_of_lt o.isLt, Nat.shiftLeft_eq]
  exact congrArg (fun x => x * 2 ^ 8 + o.toNat) h2

theorem opcField_toNat (w : Word) : (opcField w).toNat = w.toNat % 256 := by
  simp [opcField, BitVec.extractLsb'_toNat]

theorem slotField_toNat (w : Word) : (slotField w).toNat = w.toNat / 256 % 256 := by
  simp [slotField, BitVec.extractLsb'_toNat, Nat.shiftRight_eq_div_pow]

theorem rsvField_toNat (w : Word) : (rsvField w).toNat = w.toNat / 65536 := by
  have := w.isLt
  simp [rsvField, BitVec.extractLsb'_toNat, Nat.shiftRight_eq_div_pow]
  omega

theorem opcField_commandWord (s : SlotNo) (o : Byte) : opcField (commandWord s o) = o := by
  apply BitVec.eq_of_toNat_eq
  have := o.isLt
  rw [opcField_toNat, commandWord_toNat]
  omega

theorem slotField_commandWord (s : SlotNo) (o : Byte) : slotField (commandWord s o) = s := by
  apply BitVec.eq_of_toNat_eq
  have := o.isLt; have := s.isLt
  rw [slotField_toNat, commandWord_toNat]
  omega

theorem rsvField_commandWord (s : SlotNo) (o : Byte) : rsvField (commandWord s o) = 0 := by
  apply BitVec.eq_of_toNat_eq
  have := o.isLt; have := s.isLt
  rw [rsvField_toNat, commandWord_toNat]
  show _ = 0
  omega

/-- A word with RSV 0 is its other two fields (30_encoding.md R92). -/
theorem word_of_fields (w : Word) (h : rsvField w = 0) : w = commandWord (slotField w) (opcField w) := by
  apply BitVec.eq_of_toNat_eq
  have hz : (rsvField w).toNat = 0 := by rw [h]; rfl
  rw [rsvField_toNat] at hz
  rw [commandWord_toNat, slotField_toNat, opcField_toNat]
  omega

namespace Machine

/-! ## The step -/

theorem step_pending (s : State) (h : s.tickPending = true) (hr : ¬NextResets s) : step s = exec .tick s := by
  simp only [step, h, if_true, pendingTick]
  split
  · next k rest hp => exact absurd ⟨k, rest, hp⟩ hr
  · rfl

theorem step_pending_reset (s : State) (k : Nat) (rest : List Action) (h : s.tickPending = true)
    (hp : s.env.program = .resetPulse k :: rest) :
    step s = abandoned k (s.withProgram rest) (exec .tick (s.withProgram rest)) := by
  simp [step, pendingTick, State.popProgram, h, hp]

theorem step_idle (s : State) (h : s.tickPending = false) (hp : s.env.program = []) : step s = .next s := by
  simp [step, nextAction, h, hp]

theorem step_action (s : State) (a : Action) (rest : List Action) (h : s.tickPending = false)
    (hp : s.env.program = a :: rest) : step s = perform a (s.withProgram rest) := by
  simp [step, nextAction, State.popProgram, h, hp]

theorem perform_cmdWrite (w : Word) (s : State) : perform (cmdWrite w) s = issue w s := rfl

theorem issue_ok (w : Word) (i : Instr) (s : State) (h : decode w = .ok i) : issue w s = exec i s := by
  simp [issue, h]

theorem issue_error (w : Word) (e : DecodeError) (s : State) (h : decode w = .error e) :
    issue w s = .next (reject (decodeCode e) s) := by
  simp [issue, h]

/-- A step that answers a next state ran the pending tick, abandoned it for a reset, did nothing, or performed the
next action. -/
theorem step_cases {s t : State} (h : step s = .next t) :
    (s.tickPending = true ∧ ¬NextResets s ∧ tickStep s = some t) ∨
      (∃ k rest u, s.tickPending = true ∧ s.env.program = .resetPulse k :: rest ∧
        tickStep (s.withProgram rest) = some u ∧ t = abandonAfter k (s.withProgram rest) u) ∨
      (s.tickPending = false ∧ s.env.program = [] ∧ t = s) ∨
      (∃ a rest, s.tickPending = false ∧ s.env.program = a :: rest ∧ perform a (s.withProgram rest) = .next t) := by
  by_cases hp : s.tickPending = true
  · by_cases hr : NextResets s
    · obtain ⟨k, rest, hpr⟩ := hr
      obtain ⟨u, hu, he⟩ := exec_tick_eq (s.withProgram rest)
      rw [step_pending_reset s k rest hp hpr, he] at h
      cases h
      exact .inr (.inl ⟨k, rest, u, hp, hpr, hu, rfl⟩)
    · obtain ⟨u, hu, he⟩ := exec_tick_eq s
      rw [step_pending s hp hr, he] at h
      cases h
      exact .inl ⟨hp, hr, hu⟩
  · simp only [Bool.not_eq_true] at hp
    cases hpr : s.env.program with
    | nil =>
      rw [step_idle s hp hpr] at h
      cases h
      exact .inr (.inr (.inl ⟨hp, rfl, rfl⟩))
    | cons a rest =>
      rw [step_action s a rest hp hpr] at h
      exact .inr (.inr (.inr ⟨a, rest, hp, rfl, h⟩))

/-- A command that a reset pulse abandons: the block is reset, the world is as the command's first calls left it. -/
theorem perform_cutCommand (w : Word) (k : Nat) (s t : State) (h : issue w s = .next t) :
    perform (.cutCommand w k) s = .next (abandonAfter k s t) := by
  simp only [perform, h, abandoned]

/-- Every operation completes in every state: no command stops the block (60_exceptions.md R261). -/
theorem exec_completes (i : Instr) (s : State) : ∃ t, exec i s = .next t := by
  cases i with
  | nop => exact ⟨_, rfl⟩
  | diagSnap => exact ⟨_, rfl⟩
  | init => simp only [exec, execInit]; split <;> [exact ⟨_, rfl⟩; (split <;> exact ⟨_, rfl⟩)]
  | play =>
    simp only [exec, execPlay]
    split
    · exact ⟨_, rfl⟩
    · split
      · exact ⟨_, rfl⟩
      · split <;> exact ⟨_, rfl⟩
  | playCh n =>
    simp only [exec, execPlayCh]
    split
    · exact ⟨_, rfl⟩
    · split
      · exact ⟨_, rfl⟩
      · split <;> exact ⟨_, rfl⟩
  | stop n =>
    simp only [exec, execStop]
    split
    · exact ⟨_, rfl⟩
    · split
      · exact ⟨_, rfl⟩
      · split <;> exact ⟨_, rfl⟩
  | stopAll => simp only [exec, execStopAll]; split <;> exact ⟨_, rfl⟩
  | cancel n =>
    simp only [exec, execCancel]
    split
    · exact ⟨_, rfl⟩
    · split
      · exact ⟨_, rfl⟩
      · split <;> exact ⟨_, rfl⟩
  | update =>
    by_cases hi : s.initOk = true
    · by_cases hp : s.poll = true
      · obtain ⟨t, -, h⟩ := exec_update_poll_eq s hi hp
        exact ⟨_, h⟩
      · exact ⟨_, by simp [exec, execUpdate, hi, hp]; rfl⟩
    · exact ⟨_, by simp [exec, execUpdate, hi]; rfl⟩
  | tick => obtain ⟨t, -, h⟩ := exec_tick_eq s; exact ⟨t, h⟩

end Machine

end Sys2Proof
end

