-- ==== Sys2Proof/Laws/Exec.lean ====
section
/-! SUPPORT. Each meaning, case by case: which checks lead to which shared operation. -/

namespace Sys2Proof.Machine

theorem slotLegal_iff (s : State) (n : SlotNo) : slotLegal s n = true ↔ n.toNat < s.slots.length := by
  simp [slotLegal, State.nSlots]

theorem getD_of_getElem? {l : List Slot} {i : Nat} {sl : Slot} (h : l[i]? = some sl) :
    l.getD i Slot.zero = sl := by simp [List.getD, h]

theorem slotLegal_of_getElem? {s : State} {n : SlotNo} {sl : Slot} (h : s.slots[n.toNat]? = some sl) :
    slotLegal s n = true := (slotLegal_iff s n).2 (List.getElem?_eq_some_iff.1 h).1

theorem modify_eq_set {l : List Slot} {i : Nat} {sl : Slot} (f : Slot → Slot) (h : l[i]? = some sl) :
    l.modify i f = l.set i (f sl) := by
  obtain ⟨hi, he⟩ := List.getElem?_eq_some_iff.1 h
  apply List.ext_getElem?
  intro j
  rw [List.getElem?_modify, List.getElem?_set]
  by_cases hij : i = j
  · subst hij; simp [he, hi]
  · simp [hij]

/-! ## INIT -/

theorem exec_init_badRate (s : State) (h : rateLegal s.cfg s.arg0 = false) :
    exec .init s = .next (initFailed .badArg (resetEngine s)) := by
  simp only [exec, execInit, h, Bool.not_false, if_true]

theorem exec_init_noTransport (s : State) (h : rateLegal s.cfg s.arg0 = true)
    (hb : bringUpOk (s.env.begin s.arg0 s.arg1) = false) :
    exec .init s = .next (initFailed .initFail ((resetEngine s).withEnv (s.env.begin s.arg0 s.arg1))) := by
  simp only [exec, execInit, h, resetEngine_env, withEnv_env, hb, Bool.not_true, Bool.not_false, if_true,
    Bool.false_eq_true, if_false]

theorem exec_init_ok (s : State) (h : rateLegal s.cfg s.arg0 = true)
    (hb : bringUpOk (s.env.begin s.arg0 s.arg1) = true) :
    exec .init s = .next (finish 1 (bringUp ((resetEngine s).withEnv (s.env.begin s.arg0 s.arg1)))) := by
  simp only [exec, execInit, h, resetEngine_env, withEnv_env, hb, Bool.not_true, Bool.false_eq_true, if_false]

/-! ## The decode order's state checks -/

theorem exec_notInit (s : State) (h : s.initOk = false) (n : SlotNo) (i : Instr)
    (hi : i = .play ∨ i = .playCh n ∨ i = .stop n ∨ i = .stopAll ∨ i = .cancel n ∨ i = .update) :
    exec i s = .next (reject .notInit s) := by
  rcases hi with rfl | rfl | rfl | rfl | rfl | rfl <;>
    simp only [exec, execPlay, execPlayCh, execStop, execStopAll, execCancel, execUpdate, h, Bool.not_false,
      if_true]

theorem exec_badSlot (s : State) (h : s.initOk = true) (n : SlotNo) (hn : slotLegal s n = false) (i : Instr)
    (hi : i = .playCh n ∨ i = .stop n ∨ i = .cancel n) : exec i s = .next (reject .badSlot s) := by
  rcases hi with rfl | rfl | rfl <;>
    simp only [exec, execPlayCh, execStop, execCancel, h, hn, Bool.not_true, Bool.not_false, if_true,
      Bool.false_eq_true, if_false]

/-! ## PLAY and PLAY_CH -/

theorem exec_play_badArg (s : State) (h : s.initOk = true) (ho : armOperands false s = none) :
    exec .play s = .next (reject .badArg s) := by
  simp only [exec, execPlay, h, ho, Bool.not_true, Bool.false_eq_true, if_false]

theorem exec_play_noSlot (s : State) (h : s.initOk = true) {o : ArmOperands} (ho : armOperands false s = some o)
    (hf : firstFree s.slots = none) : exec .play s = .next (noFreeSlot s) := by
  simp only [exec, execPlay, h, ho, hf, Bool.not_true, Bool.false_eq_true, if_false]

theorem exec_play_arms (s : State) (h : s.initOk = true) {o : ArmOperands} (ho : armOperands false s = some o)
    {i : Nat} (hf : firstFree s.slots = some i) : exec .play s = .next (finish (u32 i) (armSlot i o s)) := by
  simp only [exec, execPlay, h, ho, hf, Bool.not_true, Bool.false_eq_true, if_false]

theorem exec_playCh_badArg (s : State) (h : s.initOk = true) (n : SlotNo) (hn : slotLegal s n = true)
    (ho : armOperands true s = none) : exec (.playCh n) s = .next (reject .badArg s) := by
  simp only [exec, execPlayCh, h, hn, ho, Bool.not_true, Bool.false_eq_true, if_false]

theorem exec_playCh_arms (s : State) (h : s.initOk = true) (n : SlotNo) (hn : slotLegal s n = true)
    {o : ArmOperands} (ho : armOperands true s = some o) :
    exec (.playCh n) s = .next (finish (u32 n.toNat) (armSlot n.toNat o s)) := by
  simp only [exec, execPlayCh, h, hn, ho, Bool.not_true, Bool.false_eq_true, if_false]

/-! ## STOP, STOP_ALL and CANCEL -/

theorem exec_stop_active (s : State) (h : s.initOk = true) (n : SlotNo) {sl : Slot}
    (hs : s.slots[n.toNat]? = some sl) (ha : sl.active = true) :
    exec (.stop n) s = .next (finish 0 (s.withSlots (s.slots.set n.toNat (fadeOut s.cfg sl)))) := by
  simp only [exec, execStop, h, slotLegal_of_getElem? hs, getD_of_getElem? hs, ha, modify_eq_set (fadeOut s.cfg) hs,
    Bool.not_true, Bool.false_eq_true, if_false, if_true]

theorem exec_stop_inactive (s : State) (h : s.initOk = true) (n : SlotNo) {sl : Slot}
    (hs : s.slots[n.toNat]? = some sl) (ha : sl.active = false) :
    exec (.stop n) s =
      .next (finish 0 (rebuild (s.withSlots (s.slots.set n.toNat { sl with scheduled := false })))) := by
  simp only [exec, execStop, h, slotLegal_of_getElem? hs, getD_of_getElem? hs, ha,
    modify_eq_set (fun sl => { sl with scheduled := false }) hs, Bool.not_true, Bool.false_eq_true, if_false]

theorem exec_stopAll_ok (s : State) (h : s.initOk = true) :
    exec .stopAll s = .next (finish 0 (s.withSlots (s.slots.map (fadeIfActive s.cfg)))) := by
  simp only [exec, execStopAll, h, Bool.not_true, Bool.false_eq_true, if_false]

theorem exec_cancel_scheduled (s : State) (h : s.initOk = true) (n : SlotNo) {sl : Slot}
    (hs : s.slots[n.toNat]? = some sl) (ha : sl.scheduled = true) :
    exec (.cancel n) s =
      .next (finish 1 (rebuild (s.withSlots
        (s.slots.set n.toNat { sl with scheduled := false, active := false })))) := by
  simp only [exec, execCancel, h, slotLegal_of_getElem? hs, getD_of_getElem? hs, ha,
    modify_eq_set (fun sl => { sl with scheduled := false, active := false }) hs, Bool.not_true,
    Bool.false_eq_true, if_false, if_true]

theorem exec_cancel_other (s : State) (h : s.initOk = true) (n : SlotNo) {sl : Slot}
    (hs : s.slots[n.toNat]? = some sl) (ha : sl.scheduled = false) :
    exec (.cancel n) s = .next (finish 0 s) := by
  simp only [exec, execCancel, h, slotLegal_of_getElem? hs, getD_of_getElem? hs, ha, Bool.not_true,
    Bool.false_eq_true, if_false]

/-! ## UPDATE in tick mode -/

theorem exec_update_tickMode (s : State) (h : s.initOk = true) (hp : s.poll = false) :
    exec .update s = .next (finish (u32 (dueCount s)) (sweep s)) := by
  simp only [exec, execUpdate, h, hp, Bool.not_true, Bool.false_eq_true, if_false]

end Sys2Proof.Machine
end

