-- ==== Sys2Proof/Laws/PerInstr.lean ====
section
/-! SUPPORT. The families of statements made once per operation, as syntax. -/

namespace Sys2Proof.Laws

/-- An operation has a word exactly where it is well formed (30_encoding.md R94, R95). -/
def HasWord.Statement (i : Instr) : Prop := i.wellFormed = (encode i).isSome

theorem HasWord.nop : HasWord.Statement .nop := rfl
theorem HasWord.init : HasWord.Statement .init := rfl
theorem HasWord.play : HasWord.Statement .play := rfl
theorem HasWord.playCh (slot : SlotNo) : HasWord.Statement (.playCh slot) := rfl
theorem HasWord.stop (slot : SlotNo) : HasWord.Statement (.stop slot) := rfl
theorem HasWord.stopAll : HasWord.Statement .stopAll := rfl
theorem HasWord.cancel (slot : SlotNo) : HasWord.Statement (.cancel slot) := rfl
theorem HasWord.update : HasWord.Statement .update := rfl
theorem HasWord.diagSnap : HasWord.Statement .diagSnap := rfl
theorem HasWord.tick : HasWord.Statement .tick := rfl

/-- The word of an operation has no reserved bit set (30_encoding.md R92). -/
def ReservedClear.Statement (i : Instr) : Prop := ∀ w, encode i = some w → rsvField w = 0

theorem ReservedClear.nop : ReservedClear.Statement .nop := by
  intro w h; cases h; exact rsvField_commandWord _ _
theorem ReservedClear.init : ReservedClear.Statement .init := by
  intro w h; cases h; exact rsvField_commandWord _ _
theorem ReservedClear.play : ReservedClear.Statement .play := by
  intro w h; cases h; exact rsvField_commandWord _ _
theorem ReservedClear.playCh (slot : SlotNo) : ReservedClear.Statement (.playCh slot) := by
  intro w h; cases h; exact rsvField_commandWord _ _
theorem ReservedClear.stop (slot : SlotNo) : ReservedClear.Statement (.stop slot) := by
  intro w h; cases h; exact rsvField_commandWord _ _
theorem ReservedClear.stopAll : ReservedClear.Statement .stopAll := by
  intro w h; cases h; exact rsvField_commandWord _ _
theorem ReservedClear.cancel (slot : SlotNo) : ReservedClear.Statement (.cancel slot) := by
  intro w h; cases h; exact rsvField_commandWord _ _
theorem ReservedClear.update : ReservedClear.Statement .update := by
  intro w h; cases h; exact rsvField_commandWord _ _
theorem ReservedClear.diagSnap : ReservedClear.Statement .diagSnap := by
  intro w h; cases h; exact rsvField_commandWord _ _
theorem ReservedClear.tick : ReservedClear.Statement .tick := by
  intro w h; cases h

end Sys2Proof.Laws
end

