-- ==== Sys2Proof/Laws/PlayCount.lean ====
section
/-! SUPPORT. 10_state.md R27 of each operation that writes a slot's duration or play count: every one of them keeps
or restores it but `ArmDelayed`, which 40_oscillator_bank.md R118 forbids to write the play count (log 11). -/

namespace Sys2Proof.Machine

/-- R27 of one slot: a finite tone has played no more than its duration (10_state.md R27). -/
def Slot.PlayedWithin (sl : Slot) : Prop := sl.dur ≠ 0 → sl.played.toNat ≤ sl.dur.toNat

/-- A slot whose play count is 0 meets R27. -/
theorem playedWithin_of_played_zero {sl : Slot} (h : sl.played = 0) : sl.PlayedWithin := fun _ => by
  rw [h]; exact Nat.zero_le _

/-- A sounding slot of the invariant meets R27, strictly. -/
theorem playedWithin_of_toneUnfinished {sl : Slot} (ha : sl.active = true) (h : sl.ToneUnfinished) :
    sl.PlayedWithin := fun hd => Nat.le_of_lt (h ha hd)

/-- `ArmNow` meets R27 whatever the slot held (40_oscillator_bank.md R119). -/
theorem armNow_playedWithin (sl : Slot) : (armNow sl).PlayedWithin := playedWithin_of_played_zero rfl

/-- The sweep's activation restores R27 whatever the slot held (40_oscillator_bank.md R134). -/
theorem activated_playedWithin (sl : Slot) : (activated sl).PlayedWithin := playedWithin_of_played_zero rfl

/-- `FadeOut` meets R27 whatever the slot held, in both of its branches (40_oscillator_bank.md R125). -/
theorem fadeOut_playedWithin (p : Params) (sl : Slot) : (fadeOut p sl).PlayedWithin := by
  intro _
  unfold fadeOut
  split
  · show sl.played.toNat ≤ (sl.played + u32 p.fadeLen).toNat
    simp only [u32, BitVec.toNat_add, BitVec.toNat_ofNat]
    omega
  · exact Nat.zero_le _

/-- A frame keeps R27 of a sounding slot, and the last one leaves the play count at the duration
(42_mixer.md R175, R178). -/
theorem advance_playedWithin (p : Params) {sl : Slot} (ha : sl.active = true) (h : sl.ToneUnfinished) :
    (advance p sl).PlayedWithin := by
  intro hd
  have hlt := h ha hd
  show (sl.played + 1).toNat ≤ sl.dur.toNat
  have hone : (1 : Word).toNat = 1 := rfl
  rw [BitVec.toNat_add, hone]
  omega

/-- An arm command meets R27 unless it is delayed and the play count that R118 leaves is above the new duration. -/
theorem armed_playedWithin (now : Word) (o : ArmOperands) (sl : Slot)
    (h : o.delay = 0 ∨ sl.played.toNat ≤ o.dur.toNat) : (armed now o sl).PlayedWithin := by
  unfold armed
  simp only
  split
  · next hpos =>
    rcases h with h | h
    · rw [h] at hpos; exact absurd hpos (by decide)
    · exact fun _ => h
  · exact armNow_playedWithin _

/-- No delayed arm that writes the new duration (40_oscillator_bank.md R116) and does not write the play count (R118)
keeps R27, whatever else it does: it breaks R27 of a slot whose tone has just ended as 42_mixer.md R178 says. -/
theorem delayed_arm_breaks_playedWithin (p : Params) (arm : Slot → Slot) (dsamp : Word)
    (hdur : ∀ sl, (arm sl).dur = dsamp) (hplayed : ∀ sl, (arm sl).played = sl.played)
    (hpos : dsamp ≠ 0) (hlt : dsamp.toNat + 1 < 2 ^ 32) :
    ∃ sl : Slot, sl.active = true ∧ sl.ToneUnfinished ∧ (advance p sl).active = false ∧
      (advance p sl).PlayedWithin ∧ ¬(arm (advance p sl)).PlayedWithin := by
  have hone : (1 : Word).toNat = 1 := rfl
  have hnext : (dsamp + 1).toNat = dsamp.toNat + 1 := by
    rw [BitVec.toNat_add, hone]
    omega
  have hne : (dsamp + 1 != 0) = true := bne_iff_ne.2 fun h => by
    rw [h] at hnext
    exact absurd hnext (by simp)
  let sl : Slot := { Slot.zero with dur := dsamp + 1, played := dsamp, active := true }
  have htone : sl.ToneUnfinished := fun _ _ => by
    show dsamp.toNat < (dsamp + 1).toNat
    omega
  refine ⟨sl, rfl, htone, ?_, advance_playedWithin p rfl htone, fun h => ?_⟩
  · show (true && !(dsamp + 1 != 0 && dsamp + 1 == dsamp + 1)) = false
    rw [hne, beq_self_eq_true]
    rfl
  · have h' := h (by rw [hdur]; exact hpos)
    rw [hdur, hplayed] at h'
    have h'' : (dsamp + 1).toNat ≤ dsamp.toNat := h'
    omega

end Sys2Proof.Machine
end

