-- ==== Sys2Proof/Tests/Slice0.lean ====
section
/-! SUPPORT. Tests: words written out from 30_encoding.md R95, ill-formed terms, single steps against
95_test_vectors.md, and for every statement with hypotheses a state and operands that meet them. -/

namespace Sys2Proof.Tests

open Sys2Proof Sys2Proof.Machine

/-! ## Decoding: each word written out from the bit layout of 30_encoding.md R92 and the rows of R95 -/

theorem test_decode_nop : decode 0b00000000000000000000000000000000#32 = .ok .nop := by decide
theorem test_decode_init : decode 0b00000000000000000000000000000001#32 = .ok .init := by decide
theorem test_decode_play : decode 0b00000000000000000000000000000010#32 = .ok .play := by decide
theorem test_decode_playCh : decode 0b00000000000000000000011100000011#32 = .ok (.playCh 7) := by decide
theorem test_decode_stop : decode 0b00000000000000000000100100000100#32 = .ok (.stop 9) := by decide
theorem test_decode_stopAll : decode 0b00000000000000000000000000000101#32 = .ok .stopAll := by decide
theorem test_decode_cancel : decode 0b00000000000000000000000100000110#32 = .ok (.cancel 1) := by decide
theorem test_decode_update : decode 0b00000000000000000000000000000111#32 = .ok .update := by decide
theorem test_decode_diagSnap : decode 0b00000000000000000000000000001000#32 = .ok .diagSnap := by decide
theorem test_decode_largest_slot : decode 0x0000FF03#32 = .ok (.playCh 255) := by decide

/-- 95_test_vectors.md 2.7: the first opcode past the map, and the last. -/
theorem test_decode_badOpcode :
    decode 0x00000009#32 = .error .badOpcode ∧ decode 0x000000FF#32 = .error .badOpcode := by decide

/-- 95_test_vectors.md 2.7: reserved bits, and a slot on an opcode without one. -/
theorem test_decode_reserved :
    decode 0x00010000#32 = .error .reserved ∧ decode 0x00000100#32 = .error .reserved ∧
    decode 0x00000102#32 = .error .reserved ∧ decode 0x00010103#32 = .error .reserved ∧
    decode 0x00000105#32 = .error .reserved := by decide

/-- 30_encoding.md R96: the opcode is checked before the reserved bits. -/
theorem test_decode_order : decode 0xFFFFFF09#32 = .error .badOpcode := by decide

/-- 20_memory.md R63: the byte at the lowest offset is the opcode's; a partial word is no command. -/
theorem test_decode_bytes :
    decodeBytes [0x03, 0x07, 0x00, 0x00] = some (.playCh 7) ∧ decodeBytes [0x03, 0x07, 0x00] = none := by decide

theorem test_decodeTableWord :
    decodeTableWord 32 0x0703 = some (.playCh 7) ∧ decodeTableWord 8 0x08 = some .diagSnap ∧
    decodeTableWord 32 0x09 = none := by decide

/-- A table word placed where the next command comes from is fetched by the next step. -/
theorem test_withFetchWord : fetch (State.reset.withFetchWord 32 0x0703) = some 0x0703#32 := by decide

/-! ## Ill-formed terms are refused -/

theorem test_tick_ill_formed : Instr.wellFormed .tick = false ∧ encode .tick = none := by decide
theorem test_default_legal : defaultParams.legal = true := by decide
theorem test_short_table_illegal : Params.legal { defaultParams with qtable := [0] } = false := by decide
theorem test_wide_entry_illegal :
    Params.legal { defaultParams with qtable := List.replicate 64 (-32768) } = false := by decide
theorem test_no_rate_illegal : Params.legal { defaultParams with tickHz := 0 } = false := by decide
theorem test_zero_seed_illegal : Params.legal { defaultParams with ditherSeed := 0 } = false := by decide
theorem test_low_range_illegal : Params.legal { defaultParams with srMin := 999 } = false := by decide
theorem test_empty_range_illegal : Params.legal { defaultParams with srMin := 192001 } = false := by decide
theorem test_high_range_illegal : Params.legal { defaultParams with srMax := 4294968 } = false := by decide
theorem test_no_fade_illegal : Params.legal { defaultParams with fadeLen := 0 } = false := by decide
theorem test_wide_fade_illegal : Params.legal { defaultParams with fadeLen := 256 } = false := by decide

/-! ## Small states -/

/-- The state a step left, where it left one. -/
def nextOf : Out → Option State
  | .next t => some t
  | _ => none

/-- A slot of the state a step left. -/
def slotOf (o : Out) (i : Nat) : Option Slot := (nextOf o).bind (fun t => t.slots[i]?)

/-- An engine at 44100 Hz in tick mode, at 100 ms, its transport half full, ARG0..ARG3 a PLAY of 440 Hz, volume 128,
1 ms, delay 50 ms (45_system.md R240, 95_test_vectors.md 2.6). -/
def running : State :=
  { State.reset with
    initOk := true, sr := 44100, cap := 4096, accInc := 22050
    arg0 := 0x01B80000, arg1 := 128, arg2 := 1, arg3 := 50
    env := { Env.reset with now := 100, tpCap := 4096, tpFree := 2048 } }

/-- A sounding indefinite tone at the first peak: 95_test_vectors.md M13's slot after 1000 samples. -/
def peak : Slot := { Slot.zero with phase := 0x40000000, amp := 255, env := 256, played := 1000, active := true }

/-- A sounding finite tone. -/
def finite : Slot := { peak with inc := 42852281, dur := 44100, played := 100 }

/-- A slot armed for 150 ms. -/
def waiting : Slot := { Slot.zero with inc := 89478485, amp := 200, startMs := 150, scheduled := true }

/-- A slot whose tone of 100 samples has ended. -/
def ended : Slot := { Slot.zero with amp := 7, dur := 100, played := 100 }

/-- A running engine with a sounding, a waiting and a finite tone, and an ended one in slot 3. -/
def demo : State :=
  { running with
    slots := [peak, waiting, finite, ended, Slot.zero, Slot.zero, Slot.zero, Slot.zero]
    idxEntry := [0, 1, 2, 0, 0, 0, 0, 0]
    idxCount := 3 }

/-- The demo engine at the waiting tone's time. -/
def demoDue : State := { demo with env := { demo.env with now := 150 } }

/-- The demo engine in polling mode, with room for ten frames. -/
def demoPoll : State := { demoDue with poll := true, env := { demoDue.env with tpFree := 40 } }

/-- A running engine whose eight slots sound one tone. -/
def full : State :=
  { running with slots := List.replicate 8 peak, idxEntry := [0, 1, 2, 3, 4, 5, 6, 7], idxCount := 8 }

/-- The state with a command word as the host's next access. -/
def withWord (s : State) (w : Word) : State := s.withProgram [cmdWrite w]

/-! ## One step each: expected values from 95_test_vectors.md -/

/-- 2.7: NOP and DIAG_SNAP run before INIT. -/
theorem test_nop : (nextOf (step (withWord { State.reset with err := 3, result := 9 } 0))).map
    (fun t => (t.err, t.result)) = some (0, 0) := by decide +kernel

/-- 2.9. -/
theorem test_diagSnap : (nextOf (exec .diagSnap { running with diag := ⟨20, 3, 1, 40⟩ })).map
    (fun t => (t.snap, t.diag)) = some (⟨20, 3, 1, 40⟩, ⟨0, 0, 0, 0⟩) := by decide +kernel

/-- 2.8: the last row; STATUS, RESULT, acc_inc, BUF_CAP and START_MS. -/
theorem test_init_poll :
    (nextOf (exec .init { State.reset with
      arg0 := 44100, arg1 := 4096, env := { Env.reset with now := 5, beginOk := true, beginCap := 4096 } })).map
      (fun t => (regRead t 0x004, t.result, t.accInc, regRead t 0x028, regRead t 0x024))
      = some (0x00000003, 1, 22050, 4096, 5) := by decide +kernel

/-- 2.8: a re-INIT with 999 Hz fails and clears the engine, keeping the ARG registers. -/
theorem test_init_fails :
    (nextOf (exec .init { demo with arg0 := 999, diag := ⟨5, 6, 7, 8⟩ })).map
      (fun t => (regRead t 0x004, t.result, t.slots, t.diag, t.arg0))
      = some (0x00000050, 0, List.replicate 8 Slot.zero, ⟨0, 0, 0, 0⟩, 999) := by decide +kernel

/-- Program A, step 3, at once; 1000 ms are 44100 samples. -/
theorem test_play_now :
    (nextOf (exec .play { running with arg2 := 1000, arg3 := 0 })).map
      (fun t => (t.slots[0]?, t.result, regRead t 0x050, regRead t 0x054))
      = some (some { Slot.zero with inc := 42852281, amp := 128, dur := 44100, active := true },
          0, 0x00010101, 1) := by decide +kernel

/-- 2.7: the clock wraps under the delay; 2.3: the ninth PLAY finds no slot. -/
theorem test_play_later_and_full :
    (slotOf (exec .play { running with arg3 := 0x20, env := { running.env with now := 0xFFFFFFF0 } }) 0).map
      (fun sl => (sl.startMs, sl.scheduled, sl.active)) = some (0x10, true, false) ∧
    (nextOf (exec .play full)).map (fun t => (t.err, t.result, t.slots == full.slots))
      = some (6, 0xFFFFFFFF, true) := by decide +kernel

/-- 2.7: PLAY_CH 5 with eight busy slots overwrites slot 5. -/
theorem test_playCh :
    (nextOf (exec (.playCh 5) { full with arg3 := 0 })).map
      (fun t => (t.result, t.slots[5]?.map (·.amp), t.slots[4]?)) = some (5, some 128, some peak) := by
  decide +kernel

/-- 2.7: slot 8 of 8. -/
theorem test_playCh_badSlot :
    (nextOf (exec (.playCh 8) running)).map (fun t => (t.err, t.result)) = some (4, 0xFFFFFFFF) := by
  decide +kernel

/-- E3 and E4: the fade's end, and the overflow branch. -/
theorem test_stop_active :
    (slotOf (exec (.stop 0) demo) 0).map (fun sl => (sl.dur, sl.active, sl.played)) = some (1064, true, 1000) ∧
    (slotOf (exec (.stop 0) { demo with slots := [{ peak with played := 0xFFFFFFF0 }] }) 0).map
      (fun sl => (sl.dur, sl.played)) = some (64, 0) := by decide +kernel

/-- E6: a scheduled slot is idle at once and leaves the index. -/
theorem test_stop_scheduled :
    (nextOf (exec (.stop 0) { running with slots := [waiting], idxEntry := [0], idxCount := 1 })).map
      (fun t => (t.slots[0]?.map (·.scheduled), t.idxCount, t.result)) = some (some false, 0, 0) := by
  decide +kernel

/-- Program E, step 8: every sounding slot with played 0 gets dur 64; a waiting one keeps its own. -/
theorem test_stopAll :
    (nextOf (exec .stopAll { running with slots := [{ peak with played := 0 }, waiting] })).map
      (fun t => (t.slots.map (·.dur), t.result)) = some ([64, 0], 0) := by decide +kernel

/-- Program B, step 7: the cancelled slot leaves the index, and the entries past the count stay (R192). -/
theorem test_cancel_scheduled :
    (nextOf (exec (.cancel 0) { running with
      slots := [waiting, peak], idxEntry := [0, 1], idxCount := 2 })).map
      (fun t => (t.result, t.idxCount, t.idxEntry, t.slots[0]?.map Slot.isIdle))
      = some (1, 1, [1, 1], some true) := by decide +kernel

/-- E7. -/
theorem test_cancel_active : (nextOf (exec (.cancel 0) demo)).map (fun t => (t.result, t.slots == demo.slots))
    = some (0, true) := by decide +kernel

/-- 2.7: at Now 0x0000000F nothing is due, at 0x00000010 the slot starts. -/
theorem test_update :
    (nextOf (exec .update { running with
      slots := [{ waiting with startMs := 0x10 }], env := { running.env with now := 0x0F } })).map (·.result)
      = some 0 ∧
    (nextOf (exec .update { running with
      slots := [{ waiting with startMs := 0x10 }], env := { running.env with now := 0x10 } })).map
      (fun t => (t.result, t.slots.map (fun sl => (sl.active, sl.scheduled)))) = some (1, [(true, false)]) := by
  decide +kernel

/-- Program D, step 7: six free bytes take one frame in polling mode, and no counter moves. -/
theorem test_update_drain :
    (nextOf (exec .update { running with poll := true, env := { running.env with tpFree := 6 } })).map
      (fun t => (t.env.space, (channelSamples t.env.calls).length, t.diag)) = some (2, 2, ⟨0, 0, 0, 0⟩) := by decide +kernel

/-- P8: room for ten frames, throttled to 21; the accumulator keeps 50. -/
theorem test_tick_skips :
    (nextOf (exec .tick { running with tickPending := true, env := { running.env with tpFree := 40 } })).map
      (fun t => ((channelSamples t.env.calls).length, t.diag, t.acc, t.tickPending)) = some (20, ⟨1, 11, 0, 0⟩, 50, false) := by
  decide +kernel

/-- P9b: the emergency's burst of 22 frames and 23 skips. -/
theorem test_tick_emergency :
    (nextOf (exec .tick { running with cap := 100, env := { running.env with tpCap := 100, tpFree := 88 } })).map
      (fun t => ((channelSamples t.env.calls).length, t.diag)) = some (44, ⟨1, 23, 1, 22⟩) := by decide +kernel

/-- 70_reset_and_hazards.md R290: a reset pulse in a tick step after its five first calls, a query for the occupancy, a
query, two writes and a query. -/
theorem test_reset_in_tick :
    (nextOf (step { running with
      tickPending := true
      env := { running.env with tpFree := 40, program := [.resetPulse 5, .timer true] } })).map
      (fun t => (t.env.calls, t.env.space, t.env.program, t.tickPending, t.initOk))
      = some ([.tpAvail, .tpWrite 1, .tpWrite 1, .tpAvail, .tpAvail], 36, [.timer true], false, false) := by
  decide +kernel

/-- 70_reset_and_hazards.md R290: a reset pulse in INIT between its two calls. -/
theorem test_reset_in_init :
    (nextOf (step { running with
      arg0 := 44100
      env := { running.env with beginOk := true, beginCap := 64, program := [.cutCommand 0x00000001 1] } })).map
      (fun t => (t.env.calls, t.env.tpCap, t.env.space, t.initOk, t.arg0))
      = some ([.tpBegin 44100 128], 64, 64, false, 0) := by
  decide +kernel

/-! ## The mixer's parts: 95_test_vectors.md 2.1 to 2.4 -/

theorem test_increment :
    [computeInc 0x01B80000 44100, computeInc 1 131072, computeInc 3 131072, computeInc 0xAC440000 44100]
      = [42852281, 1, 2, 0x100000000] := by decide +kernel

theorem test_wave :
    ([31, 32, 63, 64, 95, 96, 127, 129, 192, 255] : List Nat).map (fun p => wave defaultQtable (BitVec.ofNat 8 p))
      = [22594, 23170, 32757, 32757, 23170, 22594, 0, -804, -32757, 0] := by decide +kernel

theorem test_dither :
    xorshift 0x92D68CA2 = 0x2B1F4D63 ∧ ditherNext 0x92D68CA2 = 0x94DACB7A ∧
    ditherValue 1 0x92D68CA2 = 1 ∧ ditherValue 1 0x164C87EA = -1 := by decide +kernel

/-- M2: the negative contribution is rounded down, the average toward zero. -/
theorem test_mix_cancelling :
    frameValue { running with
      slots := [peak, { peak with phase := 0xC0000000 }], idxEntry := [0, 1], idxCount := 2 } = 1 := by
  decide +kernel

/-- M6: the last sample of a finite tone uses its old envelope; then the slot is idle. -/
theorem test_mix_last_sample :
    let s : State := { running with
      slots := [{ peak with inc := 100, env := 8, dur := 10, played := 9 }], idxEntry := [0], idxCount := 1 }
    frameValue s = 1020 ∧
      (mixFrame s).slots.map (fun sl => (sl.env, sl.played, sl.active)) = [(0, 10, false)] := by decide +kernel

/-- M9: a gain of 2 meets the clamp. -/
theorem test_mix_clamped :
    frameValue { running with
      cfg := { defaultParams with outGainQ8 := 512 }
      slots := [{ peak with phase := 0xC0000000 }], idxEntry := [0], idxCount := 1 } = -32768 := by decide +kernel

/-! ## The port: 95_test_vectors.md 2.10 -/

theorem test_registers :
    regRead State.reset 0x000 = 0x40401008 ∧ regRead State.reset 0x054 = 0 ∧ regRead full 0x050 = 0x00080808 ∧
    regRead full 0x054 = 0xFFFFFFFF ∧ regRead full 0x120 = 0 ∧ regRead full 0x11C = 1 ∧
    regRead full 0x058 = 0 ∧ regRead full 0xFFC = 0 ∧ regRead full 0x008 = 0 := by decide +kernel

/-- An ended slot armed with a delay: R116 writes the duration, R118 leaves the play count, the sweep clears it
(40_oscillator_bank.md R116, R118, R134; log 11). -/
theorem test_delayed_arm_keeps_play_count :
    let sl := armed 0 { inc := 9, amp := 5, dur := 44, delay := 10 } ended
    sl.played = 100 ∧ sl.dur = 44 ∧ (swept 9 sl).played = 100 ∧ (swept 10 sl).played = 0 := by decide

/-! ## Witnesses: for every statement with hypotheses, a state and operands that meet all of them -/

theorem peak_ok : peak.Ok defaultParams :=
  ⟨by unfold Slot.ModesExclusive; decide, by unfold Slot.ToneUnfinished; decide,
    by unfold Slot.EnvelopeInRange; decide, by unfold Slot.UnderFadeLine; decide⟩

theorem waiting_ok : waiting.Ok defaultParams :=
  ⟨by unfold Slot.ModesExclusive; decide, by unfold Slot.ToneUnfinished; decide,
    by unfold Slot.EnvelopeInRange; decide, by unfold Slot.UnderFadeLine; decide⟩

theorem finite_ok : finite.Ok defaultParams :=
  ⟨by unfold Slot.ModesExclusive; decide, by unfold Slot.ToneUnfinished; decide,
    by unfold Slot.EnvelopeInRange; decide, by unfold Slot.UnderFadeLine; decide⟩

theorem ended_ok : ended.Ok defaultParams :=
  ⟨by unfold Slot.ModesExclusive; decide, by unfold Slot.ToneUnfinished; decide,
    by unfold Slot.EnvelopeInRange; decide, by unfold Slot.UnderFadeLine; decide⟩

theorem zero_ok : Slot.zero.Ok defaultParams :=
  ⟨by unfold Slot.ModesExclusive; decide, by unfold Slot.ToneUnfinished; decide,
    by unfold Slot.EnvelopeInRange; decide, by unfold Slot.UnderFadeLine; decide⟩

theorem demo_bankSized : BankSized demo := ⟨by decide, by decide, by decide⟩
theorem demo_indexOk : IndexOk demo := ⟨by decide, by decide, by decide, by decide⟩
theorem demoPoll_bankSized : BankSized demoPoll := ⟨by decide, by decide, by decide⟩
theorem demoPoll_indexOk : IndexOk demoPoll := ⟨by decide, by decide, by decide, by decide⟩
theorem full_bankSized : BankSized full := ⟨by decide, by decide, by decide⟩
theorem full_indexOk : IndexOk full := ⟨by decide, by decide, by decide, by decide⟩

theorem demo_slotsOk : SlotsOk demo := by
  intro sl h
  simp only [demo, List.mem_cons, List.not_mem_nil, or_false] at h
  rcases h with rfl | rfl | rfl | rfl | rfl | rfl | rfl | rfl
  · exact peak_ok
  · exact waiting_ok
  · exact finite_ok
  · exact ended_ok
  all_goals exact zero_ok

theorem demo_engineOk : EngineOk demo :=
  ⟨by decide, by decide, by decide, by decide, by decide, by decide, by decide⟩

theorem demo_inv : Inv demo := ⟨by decide, demo_bankSized, demo_slotsOk, demo_indexOk, demo_engineOk⟩

/-- The demo state with PLAY as the host's next access: every invariant, and a step that goes on. -/
theorem demoPlay_inv : Inv (withWord demo 2) :=
  ⟨demo_inv.params, ⟨demo_bankSized.1, demo_bankSized.2, demo_bankSized.3⟩, demo_slotsOk,
    ⟨demo_indexOk.1, demo_indexOk.2, demo_indexOk.3, demo_indexOk.4⟩,
    ⟨by decide, by decide, by decide, by decide, by decide, by decide, by decide⟩⟩

theorem step_issues (s : State) (w : Word) (i : Instr) (h : s.tickPending = false) (hd : decode w = .ok i) :
    ∃ t, step (withWord s w) = .next t := by
  obtain ⟨t, ht⟩ := exec_completes i (s.withProgram [])
  exact ⟨t, by rw [step_action (withWord s w) (cmdWrite w) [] h rfl, perform_cmdWrite, issue_ok w i _ hd]; exact ht⟩

theorem witness_DecodeEncodeRoundTrip :
    Instr.wellFormed (.playCh 255) = true ∧ Instr.wellFormed (.cancel 0) = true := by decide
theorem witness_DecodedWordIsItsEncoding : decode 0x0000FF04#32 = .ok (.stop 255) := by decide

/-- Both clauses at their edges: opcodes 9 and 0xFF; on opcode 8 a reserved bit, and a slot. -/
theorem witness_IllegalWordsRejected :
    (withWord demo 9).tickPending = false ∧ (withWord demo 9).env.program = cmdWrite 9 :: [] ∧
    9 ≤ (0x00000009#32).toNat % 256 ∧ 9 ≤ (0x000000FF#32).toNat % 256 ∧
    ((0x00010008#32).toNat % 256 < 9 ∧ (0x00010008#32).toNat / 65536 ≠ 0) ∧
    ((0x00000108#32).toNat % 256 < 9 ∧ (0x00000108#32).toNat / 256 % 256 ≠ 0) := by decide

theorem witness_StepRunsDecodedCommand :
    (withWord demo 0x00000703).tickPending = false ∧
    (withWord demo 0x00000703).env.program = cmdWrite 0x00000703 :: [] ∧
    decode 0x00000703#32 = .ok (.playCh 7) := by decide

theorem witness_PendingTickRunsFirst :
    { demo with tickPending := true }.tickPending = true ∧ ¬NextResets { demo with tickPending := true } :=
  ⟨rfl, fun ⟨_, _, h⟩ => by cases h⟩

/-- Both clauses: an engine in tick mode; a polling one, and one not initialized. -/
theorem witness_TickPulseAcceptance :
    (demo.withProgram [.tickPulse]).tickPending = false ∧
    (demo.withProgram [.tickPulse]).env.program = .tickPulse :: [] ∧
    ((demo.withProgram [.tickPulse]).initOk = true ∧ (demo.withProgram [.tickPulse]).poll = false) ∧
    (demoPoll.withProgram [.tickPulse]).tickPending = false ∧ (demoPoll.withProgram [.tickPulse]).poll = true ∧
    (State.reset.withProgram [.tickPulse]).initOk = false := by decide

/-- Each clause: between steps, in a pending tick's step, in a command, and in an illegal command. -/
theorem witness_ResetPulseRestoresBlock :
    ((demo.withProgram [.resetPulse 0]).tickPending = false ∧
      (demo.withProgram [.resetPulse 0]).env.program = .resetPulse 0 :: []) ∧
    (let s : State := { demo.withProgram [.resetPulse 3] with tickPending := true }
     s.tickPending = true ∧ s.env.program = .resetPulse 3 :: []) ∧
    (let s := demo.withProgram [.cutCommand 0x00000001 1]
     s.tickPending = false ∧ s.env.program = .cutCommand 0x00000001 1 :: [] ∧ decode 0x00000001#32 = .ok .init) ∧
    (let s := demo.withProgram [.cutCommand 0x00000009 1]
     s.tickPending = false ∧ s.env.program = .cutCommand 0x00000009 1 :: [] ∧
       decode 0x00000009#32 = .error .badOpcode) := by decide

/-- Each alternative: a pending tick before an access the model refuses; a legal access; no access left. -/
theorem witness_StepNeverStops :
    { demo.withProgram [.rd .byte 0] with tickPending := true }.tickPending = true ∧
    (∀ a ∈ (demo.withProgram [.rd .word 0xFFC]).env.program.head?, a.legal = true) ∧
    (∀ a ∈ demo.env.program.head?, a.legal = true) := by decide

/-- The rate and the capacity at their smallest legal values. -/
theorem witness_InitBringsEngineUp :
    let s : State := { State.reset with arg0 := 1000, env := { Env.reset with beginOk := true, beginCap := 4 } }
    s.cfg.srMin ≤ s.arg0.toNat ∧ s.arg0.toNat ≤ s.cfg.srMax ∧ s.env.beginOk = true ∧ 4 ≤ s.env.beginCap.toNat := by
  decide

/-- Each clause at its edges: 999 and 192001 Hz; a refused bring-up at 192000 Hz, and a capacity of 3. -/
theorem witness_InitFailureLeavesEngineReset :
    (999#32).toNat < defaultParams.srMin ∧ defaultParams.srMax < (192001#32).toNat ∧
    (let s : State := { demo with arg0 := 192000 }
     s.cfg.srMin ≤ s.arg0.toNat ∧ s.arg0.toNat ≤ s.cfg.srMax ∧ s.env.beginOk = false) ∧
    (let s : State := { demo with arg0 := 1000, env := { demo.env with beginOk := true, beginCap := 3 } }
     s.cfg.srMin ≤ s.arg0.toNat ∧ s.arg0.toNat ≤ s.cfg.srMax ∧ s.env.beginCap.toNat < 4) := by decide

theorem witness_UninitializedEngineRejects :
    State.reset.initOk = false ∧
    Instr.update ∈ [Instr.play, .playCh 255, .stop 255, .stopAll, .cancel 255, .update] := by decide

theorem witness_SlotOutOfRangeRejected :
    demo.initOk = true ∧ demo.slots.length ≤ (8#8).toNat ∧
    Instr.cancel 8 ∈ [Instr.playCh 8, .stop 8, .cancel 8] := by decide

/-- Each of the four checks failing at its edge, for both variants. -/
theorem witness_IllegalOperandsRejected :
    demo.initOk = true ∧ (7#8).toNat < demo.slots.length ∧
    ¬OperandsLegal { demo with arg0 := 0xAC440000 } 0xAC440000 ∧
    ¬OperandsLegal { demo with arg1 := 256 } 0x01B80000 ∧
    ¬OperandsLegal { demo with arg2 := 97391549 } 0x01B80000 ∧
    ¬OperandsLegal { demo with arg3 := 0x80000000 } 0x01B80000 ∧
    ¬OperandsLegal { demo with arg1 := 256 } (0x01B80000 * demo.cfg.freqCompQ16 / 65536) := by
  unfold OperandsLegal; decide

/-- An idle slot behind busy ones; operands at their largest legal values, and a delay of 0. -/
theorem witness_PlayArmsFirstIdleSlot :
    demo.initOk = true ∧ demo.slots.length ≤ 255 ∧ OperandsLegal demo demo.arg0.toNat ∧
    OperandsLegal { demo with arg0 := 0xAC43FFFF, arg1 := 255, arg2 := 97391548, arg3 := 0x7FFFFFFF } 0xAC43FFFF ∧
    OperandsLegal { demo with arg3 := 0 } demo.arg0.toNat ∧
    demo.slots[3]? = some ended ∧ ended.active = false ∧ ended.scheduled = false ∧
    (∀ j : Nat, j < 3 → ∀ x : Slot, demo.slots[j]? = some x → x.active = true ∨ x.scheduled = true) := by
  refine ⟨by decide, by decide, by unfold OperandsLegal; decide, by unfold OperandsLegal; decide,
    by unfold OperandsLegal; decide, by decide, by decide, by decide, ?_⟩
  intro j hj x hx
  have h : j = 0 ∨ j = 1 ∨ j = 2 := by omega
  rcases h with rfl | rfl | rfl <;> (cases hx; decide)

theorem witness_PlayWithoutIdleSlotChangesNothing :
    full.initOk = true ∧ OperandsLegal full full.arg0.toNat ∧
    (∀ sl ∈ full.slots, sl.active = true ∨ sl.scheduled = true) :=
  ⟨by decide, by unfold OperandsLegal; decide, by decide⟩

/-- The first slot of the bank, sounding, and the last. -/
theorem witness_PlayChArmsNamedSlot :
    demo.initOk = true ∧ demo.slots.length ≤ 255 ∧
    OperandsLegal demo (demo.arg0.toNat * demo.cfg.freqCompQ16 / 65536) ∧
    demo.slots[(0#8).toNat]? = some peak ∧ demo.slots[(7#8).toNat]? = some Slot.zero :=
  ⟨by decide, by decide, by unfold OperandsLegal; decide, by decide, by decide⟩

theorem witness_IncrementWithinHalfUnit : 0 < (1 : Nat) := by decide
theorem witness_FiniteDurationStaysFinite : 1000 ≤ (1000 : Nat) := by decide

theorem witness_StopFadesActiveSlot :
    demo.initOk = true ∧ demo.slots[(0#8).toNat]? = some peak ∧ peak.active = true := by decide

/-- A waiting slot, and an idle one. -/
theorem witness_StopCancelsInactiveSlot :
    demo.initOk = true ∧ demo.slots.length ≤ 255 ∧
    (demo.slots[(1#8).toNat]? = some waiting ∧ waiting.active = false) ∧
    (demo.slots[(7#8).toNat]? = some Slot.zero ∧ Slot.zero.active = false) := by decide

theorem witness_StopAllFadesActiveSlots : demo.initOk = true ∧ demo.slots[0]? = some peak := by decide

/-- Both clauses: a waiting slot, and a sounding one. -/
theorem witness_CancelReleasesScheduledSlot :
    demo.initOk = true ∧ demo.slots.length ≤ 255 ∧
    (demo.slots[(1#8).toNat]? = some waiting ∧ waiting.scheduled = true) ∧
    (demo.slots[(0#8).toNat]? = some peak ∧ peak.scheduled = false) := by decide

/-- Both branches of the fade, and a full envelope. -/
theorem witness_StopFadeLastsSixtyFourFrames :
    0 < defaultParams.fadeLen ∧ defaultParams.fadeLen < 2 ^ 32 ∧ peak.active = true ∧
    { peak with played := 0xFFFFFFC0 }.active = true ∧ peak.env = 256 ∧ 63 < defaultParams.fadeLen := by
  decide

/-- Tick mode, with nothing due, and with one slot due. -/
theorem witness_UpdateSweepsDueSlots :
    demo.initOk = true ∧ demo.poll = false ∧ demo.slots.length ≤ 255 ∧ dueSlots demo.env.now demo.slots = 0 ∧
    demoDue.initOk = true ∧ demoDue.poll = false ∧ 0 < dueSlots demoDue.env.now demoDue.slots := by decide

/-- Polling mode, with one slot due, and with nothing due. -/
theorem witness_UpdateDrainsInPollingMode :
    demoPoll.initOk = true ∧ demoPoll.poll = true ∧ demoPoll.slots.length ≤ 255 ∧
    0 < dueSlots demoPoll.env.now demoPoll.slots ∧ dueSlots 100 demoPoll.slots = 0 := by decide

theorem witness_PollDrainFillsTransport :
    demoPoll.initOk = true ∧ demoPoll.poll = true ∧ demoPoll.env.frees = [] := by decide

theorem witness_ElapsedExactForLegalDelays : 2 ^ 31 - 1 < 2 ^ 31 ∧ 0 < 2 ^ 31 := by decide

theorem witness_TickWithIdleConsumerIsExact : demo.env.frees = [] := by decide

theorem witness_TickWritesOnlyItsState :
    (∃ t, exec .tick demo = .next t ∧ t.slots.length = demo.slots.length) ∧ demo.slots[0]? = some peak := by
  obtain ⟨t, ht, he⟩ := exec_tick_eq demo
  refine ⟨⟨t, he, ?_⟩, by decide⟩
  have hf : ∀ s : State, (afterFrame s).slots.length = s.slots.length := fun s => mixSlots_length s
  exact tickStep_keeps (P := fun u => u.slots.length = demo.slots.length) (fun _ h => h)
    (fun s h => (hf s).trans h) (fun _ h => h) (fun _ h => h) (fun _ h => h) rfl ht

/-- The largest remainder an accumulator holds. -/
theorem witness_TickFramesBounded : { demo with acc := 999 }.acc.toNat < 1000 := by decide
theorem witness_BaselineRateIsDriftFree : (999#32).toNat < 1000 := by decide

/-- Both clauses: tick mode, and polling mode. -/
theorem witness_WrittenFramesAdvanceSlots :
    (BankSized demo ∧ IndexOk demo) ∧
    (BankSized demoPoll ∧ IndexOk demoPoll ∧ demoPoll.initOk = true ∧ demoPoll.poll = true) :=
  ⟨⟨demo_bankSized, demo_indexOk⟩, demoPoll_bankSized, demoPoll_indexOk, by decide, by decide⟩

theorem witness_MixerAdvancesEachActiveSlotOnce : BankSized demo ∧ IndexOk demo ∧ contributors demo.slots ≠ [] :=
  ⟨demo_bankSized, demo_indexOk, by decide⟩
theorem witness_FrameValueIsBankAverage :
    BankSized demo ∧ IndexOk demo ∧ (contributors demo.slots).length = 2 :=
  ⟨demo_bankSized, demo_indexOk, by decide⟩

/-- Eight equal voices. -/
theorem witness_EqualVoicesMixToOne :
    BankSized full ∧ IndexOk full ∧ peak ∈ contributors full.slots ∧
    (∀ sl ∈ contributors full.slots,
      sl.amp = peak.amp ∧ sl.env = peak.env ∧ sl.phase.extractLsb' 24 8 = peak.phase.extractLsb' 24 8) :=
  ⟨full_bankSized, full_indexOk, by decide, by decide⟩

/-- A listed sounding slot of amplitude 0 and a listed waiting one; and an empty index. -/
theorem witness_SilentMixIsDitherAlone :
    (let s : State := { demo with slots := [{ peak with amp := 0 }, waiting], idxCount := 2 }
     publishedEntries s = [0, 1] ∧
       ∀ e ∈ publishedEntries s, ∀ sl ∈ s.slots[e.toNat]?, sl.active = true → sl.amp = 0) ∧
    publishedEntries State.reset = [] := by decide

theorem witness_ToneLastsItsDuration :
    let sl : Slot := { peak with env := 0, dur := 44100, played := 0 }
    0 < defaultParams.fadeLen ∧ sl.active = true ∧ sl.played = 0 ∧ sl.env = 0 ∧ sl.dur ≠ 0 ∧
    44099 < sl.dur.toNat := by decide

/-- A full envelope, and a play count about to wrap. -/
theorem witness_IndefiniteToneKeepsSounding :
    let sl : Slot := { peak with played := 0xFFFFFFFF }
    sl.active = true ∧ sl.dur = 0 ∧ sl.env.toNat ≤ 256 := by decide

theorem witness_EnvelopeStepBounded :
    BankSized demo ∧ IndexOk demo ∧ SlotsOk demo ∧ demo.slots[2]? = some finite ∧ demo.cfg.fadeLen = 64 ∧
    (∃ b, (mixFrame demo).slots[2]? = some b) :=
  ⟨demo_bankSized, demo_indexOk, demo_slotsOk, by decide, by decide,
    _, List.getElem?_eq_getElem (by decide +kernel)⟩

theorem witness_XorshiftNeverZero : (0x80000000 : Word) ≠ 0 := by decide
/-- The largest operand of each clause. -/
theorem witness_WaveformSymmetries :
    ((63 : Nat) < 64 ∧ defaultQtable[63]? = some 32757 ∧ defaultQtable[63 - 63]? = some 0) ∧ (127 : Nat) < 128 := by
  decide

/-- An ARG register, a read-only one, and the last offset of the window. -/
theorem witness_HostWritesStoreOperandsOnly :
    let s := demo.withProgram [.wr .word 0x010 7]
    s.tickPending = false ∧ s.env.program = .wr .word 0x010 7 :: [] ∧
    (0x010#12).toNat % 4 = 0 ∧ (0x010#12) ≠ 0x008 ∧ (0x00C#12).toNat % 4 = 0 ∧ (0x00C#12) ≠ 0x008 ∧
    (0xFFC#12).toNat % 4 = 0 ∧ (0xFFC#12) ≠ 0x008 := by decide

theorem witness_HostReadChangesNothing :
    let s := demo.withProgram [.rd .word 0x02C]
    s.tickPending = false ∧ s.env.program = .rd .word 0x02C :: [] ∧ (0x02C#12).toNat % 4 = 0 := by decide

/-- A byte write, and a misaligned word read. -/
theorem witness_MalformedAccessRefused :
    (let s := demo.withProgram [.wr .byte 0x010 7]
     s.tickPending = false ∧ s.env.program = .wr .byte 0x010 7 :: [] ∧ Width.byte ≠ .word) ∧
    (let s := demo.withProgram [.rd .word 0x002]
     s.tickPending = false ∧ s.env.program = .rd .word 0x002 :: [] ∧ (0x002#12).toNat % 4 ≠ 0) := by decide

theorem witness_StatusRegistersReadTheirFields : demo.slots.length ≤ 255 ∧ demo.cfg.fadeLen ≤ 255 := by decide

/-- Both clauses: an idle slot behind busy ones, and a bank without one. -/
theorem witness_FreeSlotReadsFirstIdle :
    (demo.slots[3]? = some ended ∧ ended.active = false ∧ ended.scheduled = false ∧
      ∀ j : Nat, j < 3 → ∀ x : Slot, demo.slots[j]? = some x → x.active = true ∨ x.scheduled = true) ∧
    (∀ sl ∈ full.slots, sl.active = true ∨ sl.scheduled = true) :=
  ⟨witness_PlayArmsFirstIdleSlot.2.2.2.2.2, by decide⟩

/-- Both clauses where they meet, at slots 7 and 8 of eight, and the last offset of the window. -/
theorem witness_SlotStatusReadsFlags :
    demo.slots.length ≤ 255 ∧ (0x100 + 4 * 7 < 4096 ∧ demo.slots[7]? = some Slot.zero) ∧
    (0x100 + 4 * 8 < 4096 ∧ demo.slots.length ≤ 8) ∧ (0x100 + 4 * 959 < 4096 ∧ demo.slots.length ≤ 959) := by
  decide

/-- The first and the last reserved offset. -/
theorem witness_PlainRegistersReadTheirState :
    (0x058 ≤ (0x058#12).toNat ∧ (0x058#12).toNat < 0x100) ∧
    (0x058 ≤ (0x0FC#12).toNat ∧ (0x0FC#12).toNat < 0x100) := by decide

theorem witness_StepKeepsInvariant : ∃ s t : State, Inv s ∧ step s = .next t := by
  obtain ⟨t, ht⟩ := step_issues demo 2 .play rfl (by decide)
  exact ⟨_, t, demoPlay_inv, ht⟩

theorem witness_StepKeepsConstantState :
    ∃ s t : State, step s = .next t ∧ s.idxEntry.length = s.slots.length := by
  obtain ⟨t, ht⟩ := step_issues demo 2 .play rfl (by decide)
  exact ⟨_, t, ht, by decide⟩

theorem witness_PlayedWithinDurationOfEverySlot :
    ∃ s t : State, Inv s ∧ (∀ sl ∈ s.slots, sl.dur ≠ 0 → sl.played.toNat ≤ sl.dur.toNat) ∧ step s = .next t := by
  obtain ⟨t, ht⟩ := step_issues demo 2 .play rfl (by decide)
  exact ⟨_, t, demoPlay_inv, by decide, ht⟩

/-- Each alternative: a pending tick, and a read as the next action. -/
theorem witness_OnlyCommandsWriteStatus :
    (∃ t, step { demo with tickPending := true } = .next t) ∧ ¬NextResets { demo with tickPending := true } ∧
    (∃ t, step (demo.withProgram [.rd .word 0]) = .next t) ∧ ¬NextResets (demo.withProgram [.rd .word 0]) ∧
    ¬NextWritesStatus (demo.withProgram [.rd .word 0]) := by
  have hr : ¬NextResets { demo with tickPending := true } := witness_PendingTickRunsFirst.2
  have hn : ¬NextResets (demo.withProgram [.rd .word 0]) := fun ⟨_, _, h⟩ => by cases h
  refine ⟨?_, hr, ⟨_, rfl⟩, hn, ?_⟩
  · obtain ⟨t, -, he⟩ := exec_tick_eq { demo with tickPending := true }
    exact ⟨t, (step_pending _ rfl hr).trans he⟩
  · rintro ⟨a, rest, h, ha⟩
    cases h
    rcases ha with ⟨k, h⟩ | ⟨w, h⟩ | ⟨w, k, h⟩ <;> cases h

theorem witness_OnlyInitChangesEngineSetup : (∃ t, exec .play demo = .next t) ∧ Instr.play ≠ .init :=
  ⟨exec_completes _ _, by decide⟩

/-- A tick that makes calls. -/
theorem witness_OnlyThreeOperationsCallOut :
    (∃ t, exec .tick running = .next t) ∧
    (nextOf (exec .tick { running with env := { running.env with tpFree := 40 } })).map
      (fun t => t.env.calls == running.env.calls) = some false :=
  ⟨exec_completes _ _, by decide +kernel⟩

end Sys2Proof.Tests
end

/-! ## Banks, slot by slot -/

namespace Sys2Proof.Machine

/-- Two banks of one length are related slot by slot where every pair of slots of one number is. -/
theorem forall₂_of_getElem? {R : Slot → Slot → Prop} {l m : List Slot} (hl : l.length = m.length)
    (h : ∀ (i : Nat) (a b : Slot), l[i]? = some a → m[i]? = some b → R a b) : List.Forall₂ R l m :=
  List.forall₂_iff_get.2 ⟨hl, fun i hi hj =>
    h i _ _ (List.getElem?_eq_getElem hi) (List.getElem?_eq_getElem hj)⟩

theorem forall₂_getElem? {R : Slot → Slot → Prop} {l m : List Slot} (h : List.Forall₂ R l m) {i : Nat} {a b : Slot}
    (ha : l[i]? = some a) (hb : m[i]? = some b) : R a b := by
  obtain ⟨hi, rfl⟩ := List.getElem?_eq_some_iff.1 ha
  obtain ⟨hj, rfl⟩ := List.getElem?_eq_some_iff.1 hb
  exact (List.forall₂_iff_get.1 h).2 i hi hj

theorem forall₂_set {R : Slot → Slot → Prop} (refl : ∀ a, R a a) {l : List Slot} {i : Nat} {a b : Slot}
    (ha : l[i]? = some a) (hab : R a b) : List.Forall₂ R l (l.set i b) := by
  refine forall₂_of_getElem? (by simp) fun j x y hx hy => ?_
  by_cases hij : i = j
  · subst hij
    rw [List.getElem?_set_self (List.getElem?_eq_some_iff.1 ha).1] at hy
    cases hy
    cases ha.symm.trans hx
    exact hab
  · rw [List.getElem?_set_ne hij, hx] at hy
    cases hy
    exact refl x

theorem forall₂_map {R : Slot → Slot → Prop} {f : Slot → Slot} (h : ∀ a, R a (f a)) (l : List Slot) :
    List.Forall₂ R l (l.map f) := by
  rw [List.forall₂_map_right_iff, List.forall₂_same]
  exact fun a _ => h a

/-- What a relation carries over from each slot of one bank, it carries over from the bank. -/
theorem forall_mem_of_forall₂ {P Q : Slot → Prop} {R : Slot → Slot → Prop} (step : ∀ a b, P a → R a b → Q b)
    {l m : List Slot} (h : List.Forall₂ R l m) (hl : ∀ a ∈ l, P a) : ∀ b ∈ m, Q b := by
  induction h with
  | nil => exact fun b hb => absurd hb List.not_mem_nil
  | cons hab _ ih =>
    rw [List.forall_mem_cons] at hl ⊢
    exact ⟨step _ _ hl.1 hab, ih hl.2⟩

/-- A frame extends every relation to an earlier bank that an advance of an active slot extends. -/
theorem mixFrame_forall₂ {R : Slot → Slot → Prop} {s : State} {l : List Slot}
    (step : ∀ a b, R a b → b.active = true → R a (advance s.cfg b)) (h : List.Forall₂ R l s.slots) :
    List.Forall₂ R l (mixFrame s).slots := by
  refine forall₂_of_getElem? (h.length_eq.trans (mixSlots_length s).symm) fun i a c ha hc => ?_
  have hi : i < s.slots.length := h.length_eq ▸ (List.getElem?_eq_some_iff.1 ha).1
  have hb := List.getElem?_eq_getElem hi
  exact mixLoop_rel (R := fun b c => R a b → R a c) (fun _ hr => hr)
    (fun _ c hbc hact hr => step a c (hbc hr) hact) _ _ i _ c hb hc (forall₂_getElem? h ha hb)

end Sys2Proof.Machine

/-! ## The dither generator never reaches 0 -/

namespace Sys2Proof.Machine

/-- A word equal to its own left shift equals every repetition of that shift, and enough of them leave 0. -/
theorem eq_zero_of_eq_shiftLeft {w n : Nat} {x : BitVec w} (hn : 0 < n) (h : x = x <<< n) : x = 0#w := by
  have repeated (k : Nat) : x = x <<< (n * k) := by
    induction k with
    | zero => simp
    | succ k ih => rw [Nat.mul_succ, BitVec.shiftLeft_add, ← ih]; exact h
  exact (repeated w).trans (BitVec.shiftLeft_eq_zero (Nat.le_mul_of_pos_left w hn))

theorem eq_zero_of_eq_ushiftRight {w n : Nat} {x : BitVec w} (hn : 0 < n) (h : x = x >>> n) : x = 0#w := by
  have repeated (k : Nat) : x = x >>> (n * k) := by
    induction k with
    | zero => simp
    | succ k ih => rw [Nat.mul_succ, BitVec.shiftRight_add, ← ih]; exact h
  exact (repeated w).trans (BitVec.ushiftRight_eq_zero (Nat.le_mul_of_pos_left w hn))

/-- Each of the three shift-and-xor lines of XS maps nonzero to nonzero (42_mixer.md R181). -/
theorem xorshift_ne_zero {x : Word} (hx : x ≠ 0) : xorshift x ≠ 0 := by
  intro h
  have h2 := eq_zero_of_eq_shiftLeft (by decide) (BitVec.xor_eq_zero_iff.1 h)
  have h1 := eq_zero_of_eq_ushiftRight (by decide) (BitVec.xor_eq_zero_iff.1 h2)
  exact hx (eq_zero_of_eq_shiftLeft (by decide) (BitVec.xor_eq_zero_iff.1 h1))

theorem ditherNext_ne_zero {x : Word} (hx : x ≠ 0) : ditherNext x ≠ 0 := xorshift_ne_zero (xorshift_ne_zero hx)

/-! ## What legal parameters give -/

theorem fadeLen_of_legal {p : Params} (h : p.legal = true) : 0 < p.fadeLen ∧ p.fadeLen ≤ 255 := by
  simp only [Params.legal, Bool.and_eq_true, decide_eq_true_eq] at h
  exact ⟨h.1.2, h.2⟩

theorem ditherSeed_of_legal {p : Params} (h : p.legal = true) : p.ditherSeed ≠ 0 := by
  simp only [Params.legal, Bool.and_eq_true, bne_iff_ne] at h
  exact h.1.1.1.1.1.2

/-! ## Each transition of a slot keeps what the spec promises of it -/

section Slots

variable {p : Params} {sl : Slot}

theorem Slot.zero_ok (p : Params) : Slot.zero.Ok p where
  modes h := Bool.noConfusion h.1
  tone h := Bool.noConfusion h
  envelope := Nat.zero_le _
  fade h := Bool.noConfusion h

/-- A slot that does not sound keeps every promise but that of the modes and the envelope's range for free. -/
theorem Slot.ok_of_inactive (ha : sl.active = false) (he : sl.EnvelopeInRange) : sl.Ok p where
  modes h := Bool.noConfusion (ha.symm.trans h.1)
  tone h := Bool.noConfusion (ha.symm.trans h)
  envelope := he
  fade h := Bool.noConfusion (ha.symm.trans h)

/-- A slot that starts to sound, at play count and envelope 0, keeps every promise. -/
theorem Slot.ok_of_started (hs : sl.scheduled = false) (hp : sl.played = 0) (he : sl.env = 0) : sl.Ok p where
  modes h := Bool.noConfusion (hs.symm.trans h.2)
  tone _ hd := by
    rw [hp]
    exact Nat.pos_of_ne_zero fun h => hd (BitVec.eq_of_toNat_eq h)
  envelope := by rw [Slot.EnvelopeInRange, he]; exact Nat.zero_le _
  fade _ _ := by rw [he]; simp

theorem armed_ok (now : Word) (o : ArmOperands) (sl : Slot) : (armed now o sl).Ok p := by
  by_cases h : 0 < o.delay.toNat
  · rw [armed_delayed now o sl h]
    exact Slot.ok_of_inactive rfl (Nat.zero_le _)
  · rw [armed_immediate now o sl (by omega)]
    exact Slot.ok_of_started rfl rfl rfl

theorem activated_ok (sl : Slot) : (activated sl).Ok p := Slot.ok_of_started rfl rfl rfl

theorem unscheduled_ok (h : sl.Ok p) : Slot.Ok p { sl with scheduled := false } where
  modes hm := Bool.noConfusion hm.2
  tone := h.tone
  envelope := h.envelope
  fade := h.fade

theorem cancelled_ok (h : sl.Ok p) : Slot.Ok p { sl with scheduled := false, active := false } :=
  Slot.ok_of_inactive rfl h.envelope

@[simp] theorem fadeOut_active (p : Params) (sl : Slot) : (fadeOut p sl).active = sl.active := by
  unfold fadeOut; split <;> rfl

@[simp] theorem fadeOut_scheduled (p : Params) (sl : Slot) : (fadeOut p sl).scheduled = sl.scheduled := by
  unfold fadeOut; split <;> rfl

@[simp] theorem fadeOut_env (p : Params) (sl : Slot) : (fadeOut p sl).env = sl.env := by
  unfold fadeOut; split <;> rfl

/-- After FadeOut exactly FADE_LEN samples are left, in both of its branches (40_oscillator_bank.md R125). -/
theorem fadeOut_left (hp : p.legal = true) (sl : Slot) :
    (fadeOut p sl).dur.toNat = (fadeOut p sl).played.toNat + p.fadeLen := by
  obtain ⟨-, hle⟩ := fadeLen_of_legal hp
  have hwindow : (u32 p.fadeLen).toNat = p.fadeLen := u32_toNat _ (by omega)
  unfold fadeOut
  split
  · rw [BitVec.toNat_add, hwindow, Nat.mod_eq_of_lt (by omega)]
  · exact hwindow.trans (Nat.zero_add _).symm

theorem fadeOut_ok (hp : p.legal = true) (h : sl.Ok p) : (fadeOut p sl).Ok p := by
  have hleft := fadeOut_left hp sl
  obtain ⟨hpos, -⟩ := fadeLen_of_legal hp
  refine ⟨?_, fun _ _ => by omega, ?_, fun _ _ => ?_⟩
  · simpa [Slot.ModesExclusive] using h.modes
  · simpa [Slot.EnvelopeInRange] using h.envelope
  · rw [hleft, Nat.add_sub_cancel_left, fadeOut_env]
    exact Nat.mul_le_mul_right _ h.envelope

theorem nextEnvelope_le (p : Params) (sl : Slot) : nextEnvelope p sl ≤ Config.envMax := by
  simp only [nextEnvelope]; split <;> omega

theorem advance_env_toNat (p : Params) (sl : Slot) : (advance p sl).env.toNat = nextEnvelope p sl := by
  have hle : nextEnvelope p sl ≤ 256 := nextEnvelope_le p sl
  rw [advance_env, BitVec.toNat_ofNat, Nat.mod_eq_of_lt (by omega)]

/-- The next envelope is under the fade line of the samples then left (42_mixer.md R173). -/
theorem nextEnvelope_underFadeLine (p : Params) (hd : sl.dur ≠ 0) :
    nextEnvelope p sl * p.fadeLen ≤ Config.envMax * (sl.dur.toNat - (sl.played + 1).toNat) := by
  by_cases hrem : sl.dur.toNat - (sl.played + 1).toNat < p.fadeLen
  · have hline : nextEnvelope p sl ≤ (sl.dur.toNat - (sl.played + 1).toNat) * Config.envMax / p.fadeLen := by
      simp only [nextEnvelope, hd, hrem, ne_eq, not_false_eq_true, and_self, if_true]
      exact Nat.min_le_right _ _
    calc nextEnvelope p sl * p.fadeLen
        ≤ (sl.dur.toNat - (sl.played + 1).toNat) * Config.envMax / p.fadeLen * p.fadeLen :=
          Nat.mul_le_mul_right _ hline
      _ ≤ (sl.dur.toNat - (sl.played + 1).toNat) * Config.envMax := Nat.div_mul_le_self _ _
      _ = Config.envMax * (sl.dur.toNat - (sl.played + 1).toNat) := Nat.mul_comm _ _
  · exact Nat.mul_le_mul (nextEnvelope_le p sl) (Nat.le_of_not_lt hrem)

theorem active_of_advance_active (h : (advance p sl).active = true) : sl.active = true := by
  simp only [advance_active, Bool.and_eq_true] at h
  exact h.1

/-- A finite tone that still sounds after a frame has not played its duration (42_mixer.md R178). -/
theorem played_ne_dur_of_advance_active (h : (advance p sl).active = true) (hd : sl.dur ≠ 0) :
    sl.played + 1 ≠ sl.dur := by
  simp only [advance_active, Bool.and_eq_true, Bool.not_eq_true', Bool.and_eq_false_iff, bne_eq_false_iff_eq,
    beq_eq_false_iff_ne] at h
  exact h.2.resolve_left hd

theorem advance_ok (h : sl.Ok p) : (advance p sl).Ok p where
  modes hm := h.modes ⟨active_of_advance_active hm.1, hm.2⟩
  tone ha hd := by
    have hlt := h.tone (active_of_advance_active ha) hd
    have hne : (sl.played + 1).toNat ≠ sl.dur.toNat := fun he =>
      played_ne_dur_of_advance_active ha hd (BitVec.eq_of_toNat_eq he)
    have hone : (sl.played + 1).toNat = (sl.played.toNat + 1) % 2 ^ 32 := BitVec.toNat_add _ _
    rw [advance_played, advance_dur]
    omega
  envelope := by
    rw [Slot.EnvelopeInRange, advance_env_toNat]
    exact nextEnvelope_le p sl
  fade _ hd := by
    rw [advance_env_toNat]
    exact nextEnvelope_underFadeLine p hd

end Slots

end Sys2Proof.Machine

/-! ## What a command can do, said once -/

namespace Sys2Proof.Machine

/-- What a fade can do to a slot: nothing, or FadeOut of a sounding one (40_oscillator_bank.md R125, R128). -/
def Fades (p : Params) (a b : Slot) : Prop := b = a ∨ (a.active = true ∧ b = fadeOut p a)

/-- What a command that rebuilds the index can do to a slot. -/
inductive SlotMove (now : Word) (a : Slot) : Slot → Prop
  | stays : SlotMove now a a
  | armed (o : ArmOperands) : SlotMove now a (armed now o a)
  | unscheduled : SlotMove now a { a with scheduled := false }
  | cancelled : SlotMove now a { a with scheduled := false, active := false }
  | activated : SlotMove now a (activated a)

/-- What a command can do to the bank and the index: fade slots and leave the index, or move slots and rebuild it. -/
inductive BankUpdate (s : State) : State → Prop
  | faded (l : List Slot) (h : List.Forall₂ (Fades s.cfg) s.slots l) : BankUpdate s (s.withSlots l)
  | rebuilt (l : List Slot) (h : List.Forall₂ (SlotMove s.env.now) s.slots l) :
      BankUpdate s (rebuild (s.withSlots l))

/-- What an operation can do: write its status alone, update the bank of an initialized engine, drain the mixer after
that in polling mode, take the snapshot, fail or bring up the reset engine, or run the tick step. -/
inductive Effect (s : State) : Instr → State → Prop
  | status (i : Instr) (e : ErrCode) (r : Word) : Effect s i (s.withStatus e r)
  | bank (i : Instr) (r : Word) {u : State} (hi : s.initOk = true) (h : BankUpdate s u) : Effect s i (finish r u)
  | drained (r : Word) {u v : State} (hi : s.initOk = true) (hp : s.poll = true) (h : BankUpdate s u)
      (hv : pollDrain u = some v) : Effect s .update (finish r v)
  | snapped : Effect s .diagSnap (finish 0 { s with snap := s.diag, diag := Counters.zero })
  | initFails (e : ErrCode) (env : Env) : Effect s .init (initFailed e ((resetEngine s).withEnv env))
  | initSucceeds (hr : rateLegal s.cfg s.arg0 = true) (hb : bringUpOk s.env = true) :
      Effect s .init (finish 1 (bringUp ((resetEngine s).withEnv (s.env.begin s.arg0 s.arg1))))
  | ticked {t : State} (h : tickStep s = some t) : Effect s .tick t

/-! ### The bank's updates -/

theorem bankUpdate_refl (s : State) : BankUpdate s s :=
  .faded s.slots (List.forall₂_same.2 fun _ _ => .inl rfl)

/-- One slot moved, and the index rebuilt. -/
theorem bankUpdate_rebuild_set {s : State} {i : Nat} {a b : Slot} (ha : s.slots[i]? = some a)
    (h : SlotMove s.env.now a b) : BankUpdate s (rebuild (s.withSlots (s.slots.set i b))) :=
  .rebuilt _ (forall₂_set (fun _ => .stays) ha h)

theorem armSlot_bankUpdate {i : Nat} {s : State} (h : i < s.slots.length) (o : ArmOperands) :
    BankUpdate s (armSlot i o s) := by
  have ha := List.getElem?_eq_getElem h
  rw [armSlot, modify_eq_set _ ha]
  exact bankUpdate_rebuild_set ha (.armed o)

theorem swept_move (now : Word) (sl : Slot) : SlotMove now sl (swept now sl) := by
  unfold swept
  split
  · exact .activated
  · exact .stays

/-- A sweep with no slot due leaves the bank as it was (40_oscillator_bank.md R134). -/
theorem sweep_eq_self {s : State} (h : dueCount s = 0) : sweep s = s := by
  have hmap : s.slots.map (swept s.env.now) = s.slots := by
    refine (List.map_congr_left fun sl hsl => ?_).trans (List.map_id _)
    have hdue : ¬isDue s.env.now sl = true := List.countP_eq_zero.1 h sl hsl
    rw [swept, if_neg hdue, id]
  rw [sweep, hmap, h]
  rfl

theorem sweep_bankUpdate (s : State) : BankUpdate s (sweep s) := by
  rcases Nat.eq_zero_or_pos (dueCount s) with h | h
  · rw [sweep_eq_self h]
    exact bankUpdate_refl s
  · simp only [sweep, h, if_true]
    exact .rebuilt _ (forall₂_map (swept_move _) _)

/-! ### The operations -/

section Operations

variable {s : State}

theorem exec_init_effect (s : State) : ∃ t, exec .init s = .next t ∧ Effect s .init t := by
  by_cases hr : rateLegal s.cfg s.arg0 = true
  · by_cases hb : bringUpOk s.env = true
    · exact ⟨_, exec_init_ok s hr hb, .initSucceeds hr hb⟩
    · exact ⟨_, exec_init_noTransport s hr (Bool.eq_false_iff.2 hb), .initFails _ _⟩
  · exact ⟨_, exec_init_badRate s (Bool.eq_false_iff.2 hr), .initFails _ s.env⟩

theorem exec_play_effect (hi : s.initOk = true) : ∃ t, exec .play s = .next t ∧ Effect s .play t := by
  cases ho : armOperands false s with
  | none => exact ⟨_, exec_play_badArg s hi ho, .status _ _ _⟩
  | some o =>
    cases hf : firstFree s.slots with
    | none => exact ⟨_, exec_play_noSlot s hi ho hf, .status _ _ _⟩
    | some i =>
      obtain ⟨hlt, -⟩ := firstFree_eq_some.1 hf
      exact ⟨_, exec_play_arms s hi ho hf, .bank _ _ hi (armSlot_bankUpdate hlt o)⟩

theorem exec_playCh_effect (hi : s.initOk = true) (n : SlotNo) (hn : n.toNat < s.slots.length) :
    ∃ t, exec (.playCh n) s = .next t ∧ Effect s (.playCh n) t := by
  have hl := (slotLegal_iff s n).2 hn
  cases ho : armOperands true s with
  | none => exact ⟨_, exec_playCh_badArg s hi n hl ho, .status _ _ _⟩
  | some o => exact ⟨_, exec_playCh_arms s hi n hl ho, .bank _ _ hi (armSlot_bankUpdate hn o)⟩

theorem exec_stop_effect (hi : s.initOk = true) (n : SlotNo) (hn : n.toNat < s.slots.length) :
    ∃ t, exec (.stop n) s = .next t ∧ Effect s (.stop n) t := by
  have hsl := List.getElem?_eq_getElem hn
  cases ha : s.slots[n.toNat].active with
  | true =>
    exact ⟨_, exec_stop_active s hi n hsl ha,
      .bank _ _ hi (.faded _ (forall₂_set (fun _ => .inl rfl) hsl (.inr ⟨ha, rfl⟩)))⟩
  | false =>
    exact ⟨_, exec_stop_inactive s hi n hsl ha, .bank _ _ hi (bankUpdate_rebuild_set hsl .unscheduled)⟩

theorem fadeIfActive_fades (p : Params) (sl : Slot) : Fades p sl (fadeIfActive p sl) := by
  unfold fadeIfActive
  split
  · next ha => exact .inr ⟨ha, rfl⟩
  · exact .inl rfl

theorem exec_stopAll_effect (hi : s.initOk = true) : ∃ t, exec .stopAll s = .next t ∧ Effect s .stopAll t :=
  ⟨_, exec_stopAll_ok s hi, .bank _ _ hi (.faded _ (forall₂_map (fadeIfActive_fades s.cfg) _))⟩

theorem exec_cancel_effect (hi : s.initOk = true) (n : SlotNo) (hn : n.toNat < s.slots.length) :
    ∃ t, exec (.cancel n) s = .next t ∧ Effect s (.cancel n) t := by
  have hsl := List.getElem?_eq_getElem hn
  cases ha : s.slots[n.toNat].scheduled with
  | true => exact ⟨_, exec_cancel_scheduled s hi n hsl ha, .bank _ _ hi (bankUpdate_rebuild_set hsl .cancelled)⟩
  | false => exact ⟨_, exec_cancel_other s hi n hsl ha, .status _ _ _⟩

theorem exec_update_effect (hi : s.initOk = true) : ∃ t, exec .update s = .next t ∧ Effect s .update t := by
  cases hp : s.poll with
  | true =>
    obtain ⟨u, hu, he⟩ := exec_update_poll_eq s hi hp
    exact ⟨_, he, .drained _ hi hp (sweep_bankUpdate s) hu⟩
  | false => exact ⟨_, exec_update_tickMode s hi hp, .bank _ _ hi (sweep_bankUpdate s)⟩

end Operations

/-- A scheduling command has an effect once it has one in an initialized engine. -/
theorem has_effect_of_ready {s : State} {i : Instr} (n : SlotNo)
    (hmem : i = .play ∨ i = .playCh n ∨ i = .stop n ∨ i = .stopAll ∨ i = .cancel n ∨ i = .update)
    (h : s.initOk = true → ∃ t, exec i s = .next t ∧ Effect s i t) : ∃ t, exec i s = .next t ∧ Effect s i t := by
  by_cases hi : s.initOk = true
  · exact h hi
  · exact ⟨_, exec_notInit s (Bool.eq_false_iff.2 hi) n i hmem, .status _ _ _⟩

/-- A command with a slot has an effect once it has one on every slot of an initialized engine's bank. -/
theorem has_effect_of_inBank {s : State} {i : Instr} (n : SlotNo)
    (hmem : i = .playCh n ∨ i = .stop n ∨ i = .cancel n)
    (h : s.initOk = true → n.toNat < s.slots.length → ∃ t, exec i s = .next t ∧ Effect s i t) :
    ∃ t, exec i s = .next t ∧ Effect s i t := by
  refine has_effect_of_ready n (by rcases hmem with h | h | h <;> simp [h]) fun hi => ?_
  by_cases hn : n.toNat < s.slots.length
  · exact h hi hn
  · exact ⟨_, exec_badSlot s hi n (Bool.eq_false_iff.2 (mt (slotLegal_iff s n).1 hn)) i hmem, .status _ _ _⟩

/-- Every operation answers a next state, which is one of its effects. -/
theorem exec_has_effect (i : Instr) (s : State) : ∃ t, exec i s = .next t ∧ Effect s i t := by
  cases i with
  | nop => exact ⟨_, rfl, .status _ .ok 0⟩
  | init => exact exec_init_effect s
  | play => exact has_effect_of_ready 0 (by simp) exec_play_effect
  | playCh n => exact has_effect_of_inBank n (by simp) fun hi hn => exec_playCh_effect hi n hn
  | stop n => exact has_effect_of_inBank n (by simp) fun hi hn => exec_stop_effect hi n hn
  | stopAll => exact has_effect_of_ready 0 (by simp) exec_stopAll_effect
  | cancel n => exact has_effect_of_inBank n (by simp) fun hi hn => exec_cancel_effect hi n hn
  | update => exact has_effect_of_ready 0 (by simp) exec_update_effect
  | diagSnap => exact ⟨_, rfl, .snapped⟩
  | tick =>
    obtain ⟨t, ht, he⟩ := exec_tick_eq s
    exact ⟨t, he, .ticked ht⟩

theorem effect_of_exec {i : Instr} {s t : State} (h : exec i s = .next t) : Effect s i t := by
  obtain ⟨u, hu, he⟩ := exec_has_effect i s
  cases hu.symm.trans h
  exact he

/-! ### The actions -/

/-- What an action that completes can do: run a command, write the status of an illegal word, store an operand, accept
a tick, change the world around the block, or reset the block. -/
inductive ActionEffect (s : State) : State → Prop
  | command {w : Word} {i : Instr} {t : State} (hd : decode w = .ok i) (h : Effect s i t) : ActionEffect s t
  | illegalWord (e : ErrCode) : ActionEffect s (reject e s)
  | operand (off : Offset) (v : Word) : ActionEffect s (regWrite off v s)
  | tickPulse : ActionEffect s (acceptTick s)
  | world (e : Env) (h : e.tpCap = s.env.tpCap) : ActionEffect s (s.withEnv e)
  | blockReset (e : Env) : ActionEffect s ((blockReset s).withEnv e)

theorem actionEffect_of_issue {w : Word} {s t : State} (h : issue w s = .next t) : ActionEffect s t := by
  cases hd : decode w with
  | ok i => exact .command hd (effect_of_exec (issue_ok w i s hd ▸ h))
  | error e =>
    cases (issue_error w e s hd).symm.trans h
    exact .illegalWord _

theorem actionEffect_of_perform {a : Action} {s t : State} (h : perform a s = .next t) : ActionEffect s t := by
  cases a with
  | wr width off v =>
    simp only [perform, hostWrite] at h
    split at h
    · cases h
    · split at h
      · exact actionEffect_of_issue h
      · cases h; exact .operand off v
  | rd width off =>
    simp only [perform, hostRead] at h
    split at h
    · cases h
    · cases h; exact .world _ rfl
  | cutCommand w k =>
    cases hd : issue w s with
    | next u => cases (perform_cutCommand w k s u hd).symm.trans h; exact .blockReset _
    | fault f => simp only [perform, hd, abandoned] at h; cases h
    | refused e => simp only [perform, hd, abandoned] at h; cases h
  | tickPulse => cases h; exact .tickPulse
  | now v => cases h; exact .world _ rfl
  | free b => cases h; exact .world _ rfl
  | begin ok cap free => cases h; exact .world _ rfl
  | timer ok => cases h; exact .world _ rfl
  | frees ds => cases h; exact .world _ rfl
  | resetPulse k => cases h; exact .blockReset s.env

end Sys2Proof.Machine

/-! ## The invariant, piece by piece -/

namespace Sys2Proof.Machine

section Pieces

variable {s t : State}

theorem BankSized.of_lengths (h : BankSized s) (hs : t.slots.length = s.slots.length)
    (he : t.idxEntry.length = s.idxEntry.length) : BankSized t :=
  ⟨hs ▸ h.nonempty, hs ▸ h.bounded, by rw [he, hs]; exact h.entries⟩

/-- An index stays sound while it stays as it is and no slot becomes busy. -/
theorem IndexOk.of_quieter (h : IndexOk s) (he : t.idxEntry = s.idxEntry) (hc : t.idxCount = s.idxCount)
    (hq : List.Forall₂ (fun a b : Slot => b.isBusy = true → a.isBusy = true) s.slots t.slots) : IndexOk t := by
  have hl := hq.length_eq
  have hn : publishedNumbers t = publishedNumbers s := by simp only [publishedNumbers, publishedEntries, he, hc]
  refine ⟨by rw [hc, ← hl]; exact h.count, hn ▸ h.ascending, fun i hi => ?_, fun i hi hb => ?_⟩
  · rw [← hl]
    exact h.inBank i (hn ▸ hi)
  · have ht := List.getElem?_eq_getElem hi
    have hs := List.getElem?_eq_getElem (hl ▸ hi)
    rw [getD_of_getElem? ht] at hb
    rw [hn]
    refine h.listsBusy i (hl ▸ hi) ?_
    rw [getD_of_getElem? hs]
    exact forall₂_getElem? hq hs ht hb

/-- The engine's promises of an initialized engine, for every update of what runs: the rate, the capacity, the pacing
increment and the mode stay, and each written field is legal. -/
theorem EngineOk.of_running (h : EngineOk s) (hi : s.initOk = true) {slots : List Slot} {entries : List SlotNo}
    {count : BitVec 8} {acc rng : Word} {diag snap : Counters} {pending : Bool} {env : Env} (hrng : rng ≠ 0)
    (hacc : acc.toNat < Config.accScale) (hpending : pending = true → s.poll = false)
    (hpolling : s.poll = true → diag = Counters.zero) (hcap : env.tpCap = s.env.tpCap) :
    EngineOk { s with
      slots := slots, idxEntry := entries, idxCount := count, acc := acc, rng := rng, diag := diag, snap := snap
      tickPending := pending, env := env } where
  rng := hrng
  acc := hacc
  err := h.err
  pending hp := ⟨hi, hpending hp⟩
  polling := hpolling
  running hr := by
    obtain ⟨hmin, hmax, hframe, htp, hinc⟩ := h.running hr
    exact ⟨hmin, hmax, hframe, htp.trans hcap.symm, hinc⟩
  stopped hf := Bool.noConfusion (hi.symm.trans hf)

/-- The status, the operands and the world are free in the invariant, but for the error code's range and an
initialized engine's transport capacity. -/
theorem Inv.with_port (h : Inv s) {err : BitVec 4} (result arg0 arg1 arg2 arg3 : Word) {env : Env}
    (herr : err.toNat ≤ 7) (hcap : s.initOk = true → env.tpCap = s.env.tpCap) :
    Inv { s with
      err := err, result := result, arg0 := arg0, arg1 := arg1, arg2 := arg2, arg3 := arg3, env := env } where
  params := h.params
  bank := h.bank.of_lengths rfl rfl
  slots := h.slots
  index := h.index.of_quieter rfl rfl (List.forall₂_same.2 fun _ _ hb => hb)
  engine :=
    { rng := h.engine.rng
      acc := h.engine.acc
      err := herr
      pending := h.engine.pending
      polling := h.engine.polling
      running := fun hi => by
        obtain ⟨hmin, hmax, hframe, htp, hinc⟩ := h.engine.running hi
        exact ⟨hmin, hmax, hframe, htp.trans (hcap hi).symm, hinc⟩
      stopped := fun hi => by
        have hfixed := h.engine.stopped hi
        exact congrArg (fun u : State => { u with
          err := err, result := result, arg0 := arg0, arg1 := arg1, arg2 := arg2, arg3 := arg3, env := env }) hfixed }

theorem errCode_le_seven (e : ErrCode) : e.code.toNat ≤ 7 := by
  cases e <;> decide

theorem Inv.withStatus (h : Inv s) (e : ErrCode) (r : Word) : Inv (s.withStatus e r) :=
  h.with_port r s.arg0 s.arg1 s.arg2 s.arg3 (errCode_le_seven e) fun _ => rfl

theorem Inv.withEnv (h : Inv s) {env : Env} (hcap : s.initOk = true → env.tpCap = s.env.tpCap) :
    Inv (s.withEnv env) :=
  h.with_port s.result s.arg0 s.arg1 s.arg2 s.arg3 h.engine.err hcap

/-- A register write changes no field but the operands (20_memory.md R67). -/
theorem regWrite_operands (off : Offset) (v : Word) (s : State) : ∃ a0 a1 a2 a3 : Word,
    regWrite off v s = { s with arg0 := a0, arg1 := a1, arg2 := a2, arg3 := a3 } := by
  unfold Machine.regWrite
  split <;> exact ⟨_, _, _, _, rfl⟩

theorem Inv.regWrite (h : Inv s) (off : Offset) (v : Word) : Inv (regWrite off v s) := by
  obtain ⟨a0, a1, a2, a3, hw⟩ := regWrite_operands off v s
  rw [hw]
  exact h.with_port s.result a0 a1 a2 a3 h.engine.err fun _ => rfl

/-! ### Reset and INIT -/

theorem resetEngine_indexOk (s : State) : IndexOk (resetEngine s) where
  count := Nat.zero_le _
  ascending := List.Pairwise.nil
  inBank _ hi := absurd hi List.not_mem_nil
  listsBusy i hi hb := by
    have hz := List.eq_of_mem_replicate (List.getElem_mem hi)
    rw [getD_of_getElem? (List.getElem?_eq_getElem hi), hz] at hb
    cases hb

/-- A reset engine meets the invariant. -/
theorem resetEngine_inv (hp : s.cfg.legal = true) (hb : BankSized s) (herr : s.err.toNat ≤ 7) :
    Inv (resetEngine s) where
  params := hp
  bank := hb.of_lengths (by simp) (by simp)
  slots sl hsl := by
    rw [List.eq_of_mem_replicate hsl]
    exact Slot.zero_ok _
  index := resetEngine_indexOk s
  engine :=
    { rng := ditherSeed_of_legal hp
      acc := Nat.zero_lt_succ _
      err := herr
      pending := fun h => Bool.noConfusion h
      polling := fun h => Bool.noConfusion h
      running := fun h => Bool.noConfusion h
      stopped := fun _ => by simp [resetEngine] }

theorem Inv.blockReset (h : Inv s) (env : Env) : Inv ((blockReset s).withEnv env) :=
  (resetEngine_inv h.params h.bank h.engine.err).with_port 0 0 0 0 0 (Nat.zero_le _)
    fun hi => Bool.noConfusion hi

theorem Inv.initFails (h : Inv s) (e : ErrCode) (env : Env) : Inv (initFailed e ((resetEngine s).withEnv env)) :=
  (resetEngine_inv h.params h.bank h.engine.err).with_port 0 s.arg0 s.arg1 s.arg2 s.arg3 (errCode_le_seven e)
    fun hi => Bool.noConfusion hi

theorem rateLegal_iff (p : Params) (sr : Word) :
    rateLegal p sr = true ↔ p.srMin ≤ sr.toNat ∧ sr.toNat ≤ p.srMax := by
  simp [rateLegal]

theorem bringUpOk_iff (e : Env) : bringUpOk e = true ↔ e.beginOk = true ∧ Config.frameBytes ≤ e.beginCap.toNat := by
  simp [bringUpOk]

/-- INIT brings the reset engine up with the rate, the capacity and the increment it has checked
(45_system.md R240 to R247). -/
theorem bringUp_engineOk (h : Inv s) (hr : rateLegal s.cfg s.arg0 = true) (hb : bringUpOk s.env = true) :
    EngineOk (bringUp ((resetEngine s).withEnv (s.env.begin s.arg0 s.arg1))) where
  rng := ditherSeed_of_legal h.params
  acc := Nat.zero_lt_succ _
  err := h.engine.err
  pending hp := Bool.noConfusion hp
  polling _ := rfl
  running _ := by
    obtain ⟨hmin, hmax⟩ := (rateLegal_iff _ _).1 hr
    obtain ⟨hok, hframe⟩ := (bringUpOk_iff _).1 hb
    exact ⟨hmin, hmax, hframe, by simp [hok], rfl⟩
  stopped hf := Bool.noConfusion hf

theorem Inv.bringUp (h : Inv s) (hr : rateLegal s.cfg s.arg0 = true) (hb : bringUpOk s.env = true) :
    Inv (bringUp ((resetEngine s).withEnv (s.env.begin s.arg0 s.arg1))) := by
  have hreset := resetEngine_inv h.params h.bank h.engine.err
  exact ⟨h.params, hreset.bank.of_lengths rfl rfl, hreset.slots,
    hreset.index.of_quieter rfl rfl (List.forall₂_same.2 fun _ _ hb => hb), bringUp_engineOk h hr hb⟩

/-! ### The bank's updates -/

theorem Fades.ok {p : Params} {a b : Slot} (hp : p.legal = true) (h : a.Ok p) (hf : Fades p a b) : b.Ok p := by
  rcases hf with rfl | ⟨-, rfl⟩
  · exact h
  · exact fadeOut_ok hp h

theorem Fades.busy {p : Params} {a b : Slot} (hf : Fades p a b) (hb : b.isBusy = true) : a.isBusy = true := by
  rcases hf with rfl | ⟨-, rfl⟩
  · exact hb
  · simpa [Slot.isBusy] using hb

theorem SlotMove.ok {p : Params} {now : Word} {a b : Slot} (h : a.Ok p) (hm : SlotMove now a b) : b.Ok p := by
  cases hm with
  | stays => exact h
  | armed o => exact armed_ok now o a
  | unscheduled => exact unscheduled_ok h
  | cancelled => exact cancelled_ok h
  | activated => exact activated_ok a

/-- A running engine keeps its promises over any change of the bank and the index. -/
theorem EngineOk.with_bank (h : EngineOk s) (hi : s.initOk = true) (l : List Slot) (entries : List SlotNo)
    (count : BitVec 8) : EngineOk { s with slots := l, idxEntry := entries, idxCount := count } :=
  h.of_running hi h.rng h.acc (fun hp => (h.pending hp).2) h.polling rfl

theorem BankUpdate.keeps_inv (h : Inv s) (hi : s.initOk = true) (hu : BankUpdate s t) : Inv t := by
  cases hu with
  | faded l hl =>
    exact ⟨h.params, h.bank.of_lengths hl.length_eq.symm rfl,
      forall_mem_of_forall₂ (fun _ _ ha hf => Fades.ok h.params ha hf) hl h.slots,
      h.index.of_quieter rfl rfl (hl.imp fun _ _ hf => hf.busy), h.engine.with_bank hi _ _ _⟩
  | rebuilt l hl =>
    have hlen : l.length = s.slots.length := hl.length_eq.symm
    have hbound : (s.withSlots l).slots.length ≤ 255 := hlen ▸ h.bank.bounded
    have hentries : (rebuild (s.withSlots l)).idxEntry.length = l.length :=
      rebuild_idxEntry_length (s.withSlots l) (h.bank.entries.trans hlen.symm)
    exact ⟨h.params, h.bank.of_lengths hlen (hentries.trans (hlen.trans h.bank.entries.symm)),
      forall_mem_of_forall₂ (fun _ _ ha hm => SlotMove.ok ha hm) hl h.slots,
      rebuild_indexOk _ hbound, h.engine.with_bank hi _ _ _⟩

theorem BankUpdate.initOk (hu : BankUpdate s t) : t.initOk = s.initOk := by cases hu <;> rfl

theorem BankUpdate.poll (hu : BankUpdate s t) : t.poll = s.poll := by cases hu <;> rfl

/-! ### Frames, counters and queries -/

@[simp] theorem Env.consume_tpCap (e : Env) : e.consume.tpCap = e.tpCap := by rw [(consume_spec e).1]

@[simp] theorem Env.query_tpCap (e : Env) : e.query.tpCap = e.tpCap := e.consume_tpCap

/-- A frame keeps the invariant: it advances slots, none of which it makes busy, and draws from the generator. -/
theorem Inv.mixFrame (h : Inv s) (hi : s.initOk = true) : Inv (mixFrame s) where
  params := h.params
  bank := h.bank.of_lengths (mixSlots_length s) rfl
  slots := mixFrame_keeps (P := fun sl => sl.Ok s.cfg) (fun _ ha _ => advance_ok ha) h.slots
  index := h.index.of_quieter rfl rfl <|
    mixFrame_forall₂ (fun _ b hr hact _ => hr (by rw [Slot.isBusy, hact]; rfl))
      (List.forall₂_same.2 fun _ _ hb => hb)
  engine := h.engine.of_running hi (ditherNext_ne_zero h.engine.rng) h.engine.acc
    (fun hp => (h.engine.pending hp).2) h.engine.polling rfl

theorem Inv.query (h : Inv s) : Inv (query s) := h.withEnv fun _ => s.env.query_tpCap

theorem Inv.afterFrame (h : Inv s) (hi : s.initOk = true) : Inv (afterFrame s) :=
  (h.mixFrame hi).withEnv fun _ => rfl

theorem accRemainder_lt (acc inc : Word) : (accRemainder acc inc).toNat < Config.accScale := by
  have hlt : (acc.toNat + inc.toNat) % Config.accScale < 1000 := Nat.mod_lt _ (by decide)
  rw [accRemainder, u32_toNat _ (by omega)]
  exact hlt

/-- What a tick step carries through its loops: the invariant, of an engine in tick mode. -/
def InvTicking (s : State) : Prop := Inv s ∧ s.initOk = true ∧ s.poll = false

/-- In tick mode the counters, the accumulator and the pending flag are free. -/
theorem InvTicking.with_counters (h : InvTicking s) (diag : Counters) {acc : Word} {pending : Bool}
    (hacc : acc.toNat < Config.accScale) :
    InvTicking { s with diag := diag, acc := acc, tickPending := pending } := by
  obtain ⟨hinv, hi, hp⟩ := h
  refine ⟨⟨hinv.params, hinv.bank.of_lengths rfl rfl, hinv.slots, ?_, ?_⟩, hi, hp⟩
  · exact hinv.index.of_quieter rfl rfl (List.forall₂_same.2 fun _ _ hb => hb)
  · exact hinv.engine.of_running hi hinv.engine.rng hacc (fun _ => hp)
      (fun hpoll => Bool.noConfusion (hp.symm.trans hpoll)) rfl

theorem InvTicking.query (h : InvTicking s) : InvTicking (query s) := ⟨h.1.query, h.2⟩

theorem tickStep_keeps_inv (h : Inv s) (hi : s.initOk = true) (hp : s.poll = false) (ht : tickStep s = some t) :
    Inv t := by
  have counted (u : State) (hu : InvTicking u) (d : Counters) : InvTicking { u with diag := d } :=
    hu.with_counters d hu.1.engine.acc
  have hentry : InvTicking (tickEntry s) :=
    (InvTicking.with_counters ⟨h, hi, hp⟩ { s.diag with ticks := s.diag.ticks + 1 }
      (accRemainder_lt s.acc s.accInc)).query
  exact (tickStep_keeps (P := InvTicking) (fun _ hu => hu.query) (fun _ hu => ⟨hu.1.afterFrame hu.2.1, hu.2⟩)
    (fun u hu => counted u hu _) (fun u hu => counted u hu _) (fun u hu => counted u hu _) hentry ht).1

theorem pollDrain_keeps_inv (h : Inv s) (hi : s.initOk = true) (ht : pollDrain s = some t) : Inv t :=
  (drainLoop_keeps (P := fun u => Inv u ∧ u.initOk = true) (fun _ hu => ⟨hu.1.query, hu.2⟩)
    (fun _ hu => ⟨hu.1.afterFrame hu.2, hu.2⟩) ⟨h, hi⟩ ht).1

/-- The snapshot clears the counters, which polling mode and an engine not initialized hold at 0 already. -/
theorem Inv.snapped (h : Inv s) : Inv { s with snap := s.diag, diag := Counters.zero } where
  params := h.params
  bank := h.bank.of_lengths rfl rfl
  slots := h.slots
  index := h.index.of_quieter rfl rfl (List.forall₂_same.2 fun _ _ hb => hb)
  engine :=
    { rng := h.engine.rng
      acc := h.engine.acc
      err := h.engine.err
      pending := h.engine.pending
      polling := fun _ => rfl
      running := h.engine.running
      stopped := fun hi => by
        have hfixed := h.engine.stopped hi
        have hdiag : s.diag = Counters.zero := congrArg State.diag hfixed
        have hsnap := congrArg (fun u : State => { u with snap := Counters.zero, diag := Counters.zero }) hfixed
        rw [hdiag]
        exact hsnap }

/-- A pulse on the tick input sets `tickPending` only where ticks are accepted (44_pacing.md R201). -/
theorem Inv.acceptTick (h : Inv s) : Inv (acceptTick s) := by
  unfold Machine.acceptTick
  split
  · next hacc =>
    obtain ⟨hi, hp⟩ : s.initOk = true ∧ s.poll = false := by simpa using hacc
    exact (InvTicking.with_counters ⟨h, hi, hp⟩ s.diag h.engine.acc).1
  · exact h

end Pieces

/-! ## Every step keeps the invariant -/

/-- No command word is TICK's (30_encoding.md R94). -/
theorem decode_ne_tick (w : Word) : decode w ≠ .ok .tick := by
  unfold decode
  split <;> simp only [slotless, slotted, ne_eq, reduceCtorEq, not_false_eq_true] <;> split <;> simp

theorem Effect.keeps_inv {i : Instr} {s t : State} (h : Inv s) (hn : i ≠ .tick) (he : Effect s i t) : Inv t := by
  cases he with
  | status i e r => exact h.withStatus e r
  | bank i r hi hu => exact (hu.keeps_inv h hi).withStatus .ok r
  | drained r hi _ hu hv =>
    exact (pollDrain_keeps_inv (hu.keeps_inv h hi) (hu.initOk.trans hi) hv).withStatus .ok r
  | snapped => exact h.snapped.withStatus .ok 0
  | initFails e env => exact h.initFails e env
  | initSucceeds hr hb => exact (h.bringUp hr hb).withStatus .ok 1
  | ticked _ => exact absurd rfl hn

theorem ActionEffect.keeps_inv {s t : State} (h : Inv s) (ha : ActionEffect s t) : Inv t := by
  cases ha with
  | command hd he =>
    refine he.keeps_inv h fun hn => ?_
    subst hn
    exact decode_ne_tick _ hd
  | illegalWord e => exact h.withStatus e _
  | operand off v => exact h.regWrite off v
  | tickPulse => exact h.acceptTick
  | world e hcap => exact h.withEnv fun _ => hcap
  | blockReset e => exact h.blockReset e

theorem Inv.withProgram {s : State} (h : Inv s) (program : List Action) : Inv (s.withProgram program) :=
  h.withEnv fun _ => rfl

/-- Settles O55: each case of `step_cases` keeps the invariant; the promises that a single update does not keep
by itself, the bank's and the index's, meet again in `BankUpdate.keeps_inv` and `Inv.mixFrame`. -/
theorem stepKeepsInvariant : Obligations.StepKeepsInvariant := by
  intro s t h hst
  rcases step_cases hst with ⟨hp, -, ht⟩ | ⟨k, rest, u, -, -, -, rfl⟩ | ⟨-, -, rfl⟩ | ⟨a, rest, -, -, ha⟩
  · obtain ⟨hi, hpoll⟩ := h.engine.pending hp
    exact tickStep_keeps_inv h hi hpoll ht
  · exact (h.withProgram rest).blockReset _
  · exact h
  · exact (actionEffect_of_perform ha).keeps_inv (h.withProgram rest)

end Sys2Proof.Machine

/-! ## What the mixer's loops leave alone -/

namespace Sys2Proof.Machine

/-- What written frames do to a slot: they write `env`, `phase`, `played` and `active`, the last to 0 only, and nothing
where the slot is not active (10_state.md R29). -/
def Ticked (a b : Slot) : Prop :=
  b = { a with env := b.env, phase := b.phase, played := b.played, active := b.active } ∧
    (b.active = true → a.active = true) ∧ (a.active = false → b = a)

theorem Ticked.refl (a : Slot) : Ticked a a := ⟨rfl, id, fun _ => rfl⟩

theorem Ticked.advance {a b : Slot} (p : Params) (h : Ticked a b) (hact : b.active = true) :
    Ticked a (advance p b) := by
  obtain ⟨hfields, honly, -⟩ := h
  have ha := honly hact
  have hadvanced := congrArg (fun x : Slot => { x with
    env := (Machine.advance p b).env, phase := (Machine.advance p b).phase
    played := (Machine.advance p b).played, active := (Machine.advance p b).active }) hfields
  exact ⟨hadvanced, fun _ => ha, fun hidle => Bool.noConfusion (hidle.symm.trans ha)⟩

/-- The world after queries and writes: the free space, the draws and the record of calls may differ. -/
def TransportOnly (e e' : Env) : Prop :=
  e' = { e with tpFree := e'.tpFree, frees := e'.frees, calls := e'.calls }

theorem TransportOnly.query {e e' : Env} (h : TransportOnly e e') : TransportOnly e e'.query := by
  have hq : e'.query = { e' with tpFree := e'.query.tpFree, frees := e'.query.frees, calls := e'.query.calls } := by
    rw [query_spec e']
  exact hq.trans (congrArg (fun x : Env =>
    { x with tpFree := e'.query.tpFree, frees := e'.query.frees, calls := e'.query.calls }) h)

theorem TransportOnly.write {e e' : Env} (h : TransportOnly e e') (v : Sample) : TransportOnly e (e'.write v) := by
  have hw := congrArg (fun x : Env => { x with tpFree := (e'.write v).tpFree, calls := (e'.write v).calls }) h
  exact hw

/-- What a tick step or a drain can have done by any point of it: the bank as frames leave it, the generator, the
accumulator, the counters, the pending flag and the transport; nothing else. -/
structure LoopFrame (s t : State) : Prop where
  state : t = { s with
    slots := t.slots, rng := t.rng, acc := t.acc, diag := t.diag, tickPending := t.tickPending, env := t.env }
  world : TransportOnly s.env t.env
  bank : List.Forall₂ Ticked s.slots t.slots

namespace LoopFrame

variable {s t u : State}

theorem refl (s : State) : LoopFrame s s := ⟨rfl, rfl, List.forall₂_same.2 fun a _ => Ticked.refl a⟩

/-- Counters, accumulator and pending flag are free in the frame. -/
theorem counted (h : LoopFrame s u) (acc : Word) (diag : Counters) (pending : Bool) :
    LoopFrame s { u with acc := acc, diag := diag, tickPending := pending } :=
  ⟨congrArg (fun x : State => { x with acc := acc, diag := diag, tickPending := pending }) h.state, h.world, h.bank⟩

theorem withEnv (h : LoopFrame s u) {env : Env} (he : TransportOnly s.env env) : LoopFrame s (u.withEnv env) :=
  ⟨congrArg (fun x : State => x.withEnv env) h.state, he, h.bank⟩

theorem query (h : LoopFrame s u) : LoopFrame s (query u) := h.withEnv h.world.query

theorem mixFrame (h : LoopFrame s u) : LoopFrame s (mixFrame u) :=
  ⟨congrArg (fun x : State => { x with slots := (Machine.mixFrame u).slots, rng := (Machine.mixFrame u).rng }) h.state,
    h.world, mixFrame_forall₂ (fun _ _ hab hact => hab.advance u.cfg hact) h.bank⟩

theorem afterFrame (h : LoopFrame s u) : LoopFrame s (afterFrame u) :=
  h.mixFrame.withEnv ((h.world.write _).write _)

end LoopFrame

theorem tickStep_frame {s t : State} (ht : tickStep s = some t) : LoopFrame s t ∧ t.tickPending = false :=
  tickStep_keeps (P := fun u => LoopFrame s u ∧ u.tickPending = false) (fun _ h => ⟨h.1.query, h.2⟩)
    (fun _ h => ⟨h.1.afterFrame, h.2⟩) (fun u h => ⟨h.1.counted u.acc _ u.tickPending, h.2⟩)
    (fun u h => ⟨h.1.counted u.acc _ u.tickPending, h.2⟩) (fun u h => ⟨h.1.counted u.acc _ u.tickPending, h.2⟩)
    ⟨((LoopFrame.refl s).counted _ _ false).query, rfl⟩ ht

theorem pollDrain_frame {s t : State} (ht : pollDrain s = some t) : LoopFrame s t :=
  drainLoop_keeps (P := LoopFrame s) (fun _ h => h.query) (fun _ h => h.afterFrame) (LoopFrame.refl s) ht

/-- Settles O34, by the frame that every query, frame and counter of the tick step keeps. -/
theorem tickWritesOnlyItsState : Obligations.TickWritesOnlyItsState := by
  intro s t h
  obtain ⟨u, hu, he⟩ := exec_tick_eq s
  cases he.symm.trans h
  obtain ⟨hframe, hpending⟩ := tickStep_frame hu
  have hstate := hframe.state
  rw [hpending] at hstate
  exact ⟨hstate, hframe.world, hframe.bank.length_eq.symm, fun _ _ _ ha hb => forall₂_getElem? hframe.bank ha hb⟩

/-! ## What every step and every command leave alone -/

/-- The constant state: parameters, number of slots and, of an index of the bank's size, number of entries
(10_state.md R23, R35). -/
def KeepsConstants (s t : State) : Prop :=
  t.cfg = s.cfg ∧ t.slots.length = s.slots.length ∧
    (s.idxEntry.length = s.slots.length → t.idxEntry.length = s.idxEntry.length)

/-- ARG0..ARG3 (10_state.md R21). -/
def KeepsOperands (s t : State) : Prop :=
  t.arg0 = s.arg0 ∧ t.arg1 = s.arg1 ∧ t.arg2 = s.arg2 ∧ t.arg3 = s.arg3

/-- What INIT alone sets (10_state.md R32, 41_synthesizer.md R155). -/
def KeepsSetup (s t : State) : Prop :=
  t.sr = s.sr ∧ t.cap = s.cap ∧ t.accInc = s.accInc ∧ t.startMsEngine = s.startMsEngine ∧ t.poll = s.poll ∧
    t.initOk = s.initOk

section Kept

variable {s t u : State}

theorem KeepsConstants.trans (h : KeepsConstants s u) (h' : KeepsConstants u t) : KeepsConstants s t := by
  obtain ⟨hcfg, hlen, hidx⟩ := h
  obtain ⟨hcfg', hlen', hidx'⟩ := h'
  refine ⟨hcfg'.trans hcfg, hlen'.trans hlen, fun he => ?_⟩
  have heq := hidx he
  exact (hidx' (by omega)).trans heq

theorem KeepsOperands.trans (h : KeepsOperands s u) (h' : KeepsOperands u t) : KeepsOperands s t := by
  obtain ⟨h0, h1, h2, h3⟩ := h
  obtain ⟨h0', h1', h2', h3'⟩ := h'
  exact ⟨h0'.trans h0, h1'.trans h1, h2'.trans h2, h3'.trans h3⟩

theorem KeepsSetup.trans (h : KeepsSetup s u) (h' : KeepsSetup u t) : KeepsSetup s t := by
  obtain ⟨hsr, hcap, hinc, hms, hpoll, hi⟩ := h
  obtain ⟨hsr', hcap', hinc', hms', hpoll', hi'⟩ := h'
  exact ⟨hsr'.trans hsr, hcap'.trans hcap, hinc'.trans hinc, hms'.trans hms, hpoll'.trans hpoll, hi'.trans hi⟩

/-- Every field of the state, read through the frame. -/
theorem LoopFrame.field {α : Type} (h : LoopFrame s t) (f : State → α) :
    f t = f { s with
      slots := t.slots, rng := t.rng, acc := t.acc, diag := t.diag, tickPending := t.tickPending, env := t.env } :=
  congrArg f h.state

theorem LoopFrame.keepsConstants (h : LoopFrame s t) : KeepsConstants s t :=
  ⟨h.field State.cfg, h.bank.length_eq.symm,
    fun _ => congrArg List.length (h.field State.idxEntry)⟩

theorem LoopFrame.keepsOperands (h : LoopFrame s t) : KeepsOperands s t :=
  ⟨h.field State.arg0, h.field State.arg1, h.field State.arg2,
    h.field State.arg3⟩

theorem LoopFrame.keepsSetup (h : LoopFrame s t) : KeepsSetup s t :=
  ⟨h.field State.sr, h.field State.cap, h.field State.accInc,
    h.field State.startMsEngine, h.field State.poll, h.field State.initOk⟩

theorem BankUpdate.keepsConstants (h : BankUpdate s t) : KeepsConstants s t := by
  cases h with
  | faded l hl => exact ⟨rfl, hl.length_eq.symm, fun _ => rfl⟩
  | rebuilt l hl =>
    have hlen : l.length = s.slots.length := hl.length_eq.symm
    exact ⟨rfl, hlen, fun he =>
      (rebuild_idxEntry_length (s.withSlots l) (he.trans hlen.symm)).trans (hlen.trans he.symm)⟩

theorem BankUpdate.keepsOperands (h : BankUpdate s t) : KeepsOperands s t := by
  cases h <;> exact ⟨rfl, rfl, rfl, rfl⟩

theorem BankUpdate.keepsSetup (h : BankUpdate s t) : KeepsSetup s t := by
  cases h <;> exact ⟨rfl, rfl, rfl, rfl, rfl, rfl⟩

theorem resetEngine_keepsConstants (s : State) : KeepsConstants s (resetEngine s) :=
  ⟨rfl, List.length_replicate, fun _ => List.length_replicate⟩

theorem Effect.keepsConstants {i : Instr} (h : Effect s i t) : KeepsConstants s t := by
  cases h with
  | status i e r => exact ⟨rfl, rfl, fun _ => rfl⟩
  | bank i r _ hu => exact hu.keepsConstants
  | drained r _ _ hu hv => exact hu.keepsConstants.trans (pollDrain_frame hv).keepsConstants
  | snapped => exact ⟨rfl, rfl, fun _ => rfl⟩
  | initFails e env => exact resetEngine_keepsConstants s
  | initSucceeds _ _ => exact resetEngine_keepsConstants s
  | ticked ht => exact (tickStep_frame ht).1.keepsConstants

theorem Effect.keepsOperands {i : Instr} (h : Effect s i t) : KeepsOperands s t := by
  cases h with
  | bank i r _ hu => exact hu.keepsOperands
  | drained r _ _ hu hv => exact hu.keepsOperands.trans (pollDrain_frame hv).keepsOperands
  | ticked ht => exact (tickStep_frame ht).1.keepsOperands
  | _ => exact ⟨rfl, rfl, rfl, rfl⟩

theorem Effect.keepsSetup {i : Instr} (h : Effect s i t) (hn : i ≠ .init) : KeepsSetup s t := by
  cases h with
  | status i e r => exact ⟨rfl, rfl, rfl, rfl, rfl, rfl⟩
  | bank i r _ hu => exact hu.keepsSetup
  | drained r _ _ hu hv => exact hu.keepsSetup.trans (pollDrain_frame hv).keepsSetup
  | snapped => exact ⟨rfl, rfl, rfl, rfl, rfl, rfl⟩
  | initFails e env => exact absurd rfl hn
  | initSucceeds _ _ => exact absurd rfl hn
  | ticked ht => exact (tickStep_frame ht).1.keepsSetup

theorem regWrite_keepsConstants (off : Offset) (v : Word) (s : State) : KeepsConstants s (regWrite off v s) := by
  obtain ⟨a0, a1, a2, a3, h⟩ := regWrite_operands off v s
  rw [h]
  exact ⟨rfl, rfl, fun _ => rfl⟩

theorem acceptTick_keepsConstants (s : State) : KeepsConstants s (acceptTick s) := by
  unfold acceptTick
  split <;> exact ⟨rfl, rfl, fun _ => rfl⟩

theorem ActionEffect.keepsConstants (h : ActionEffect s t) : KeepsConstants s t := by
  cases h with
  | command _ he => exact he.keepsConstants
  | illegalWord e => exact ⟨rfl, rfl, fun _ => rfl⟩
  | operand off v => exact regWrite_keepsConstants off v s
  | tickPulse => exact acceptTick_keepsConstants s
  | world e _ => exact ⟨rfl, rfl, fun _ => rfl⟩
  | blockReset e => exact resetEngine_keepsConstants s

end Kept

/-- Settles O56, by the cases of `step_cases`. -/
theorem stepKeepsConstantState : Obligations.StepKeepsConstantState := by
  intro s t hst
  rcases step_cases hst with ⟨-, -, ht⟩ | ⟨k, rest, u, -, -, -, rfl⟩ | ⟨-, -, rfl⟩ | ⟨a, rest, -, -, ha⟩
  · exact (tickStep_frame ht).1.keepsConstants
  · exact resetEngine_keepsConstants s
  · exact ⟨rfl, rfl, fun _ => rfl⟩
  · exact (actionEffect_of_perform ha).keepsConstants

/-- Settles O59, by the effects of the operations. -/
theorem onlyInitChangesEngineSetup : Obligations.OnlyInitChangesEngineSetup := by
  intro i s t h
  have he := effect_of_exec h
  obtain ⟨h0, h1, h2, h3⟩ := he.keepsOperands
  exact ⟨h0, h1, h2, h3, fun hn => he.keepsSetup hn⟩

end Sys2Proof.Machine

/-! ## The slot loop over a sound index -/

namespace Sys2Proof.Machine

/-- The slots of a bank with the given numbers, in the numbers' order. -/
def listedSlots (slots : List Slot) (ns : List Nat) : List Slot := ns.filterMap (slots[·]?)

section Loop

variable {p : Params} {m : Mix} {e : SlotNo} {sl : Slot}

theorem active_of_contributes (h : contributes sl = true) : sl.active = true := by
  simp only [contributes, Bool.and_eq_true] at h
  exact h.1

/-- One pass over an entry of the bank: the slot takes its frame step and adds what it contributes. -/
theorem mixEntry_eq (h : m.slots[e.toNat]? = some sl) :
    mixEntry p m e =
      { slots := m.slots.set e.toNat (frameStep p sl)
        sum := m.sum + if contributes sl then contribution p sl else 0
        n := m.n + if contributes sl then 1 else 0 } := by
  by_cases ha : sl.active = true
  · by_cases hc : contributes sl = true <;> simp [mixEntry, h, frameStep, ha, hc]
  · have hc : ¬contributes sl = true := mt active_of_contributes ha
    have hset : m.slots.set e.toNat sl = m.slots := by
      obtain ⟨hlt, rfl⟩ := List.getElem?_eq_some_iff.1 h
      exact List.set_getElem_self hlt
    simp [mixEntry, h, frameStep, ha, hc, hset]

theorem mixEntry_getElem?_ne {i : Nat} (h : e.toNat ≠ i) : (mixEntry p m e).slots[i]? = m.slots[i]? :=
  mixLoop_unlisted p [e] m i (by simpa using h)

/-- A slot that distinct entries list takes exactly one frame step. -/
theorem mixLoop_listed (p : Params) (es : List SlotNo) (m : Mix) (hd : (es.map BitVec.toNat).Nodup) {i : Nat}
    (hi : i ∈ es.map BitVec.toNat) (h : m.slots[i]? = some sl) :
    (es.foldl (mixEntry p) m).slots[i]? = some (frameStep p sl) := by
  induction es generalizing m with
  | nil => exact absurd hi List.not_mem_nil
  | cons e es ih =>
    rw [List.map_cons, List.nodup_cons] at hd
    obtain ⟨hnew, hd⟩ := hd
    rw [List.foldl_cons]
    by_cases hei : e.toNat = i
    · subst hei
      have hrest : ∀ x ∈ es, x.toNat ≠ e.toNat := fun x hx he => hnew (he ▸ List.mem_map_of_mem hx)
      rw [mixLoop_unlisted p es _ _ hrest, mixEntry_eq h,
        List.getElem?_set_self (List.getElem?_eq_some_iff.1 h).1]
    · have hmem : i ∈ es.map BitVec.toNat := (List.mem_cons.1 hi).resolve_left (Ne.symm hei)
      exact ih _ hd hmem ((mixEntry_getElem?_ne hei).trans h)

theorem listedSlots_mixEntry (p : Params) (m : Mix) (ns : List Nat) (h : e.toNat ∉ ns) :
    listedSlots (mixEntry p m e).slots ns = listedSlots m.slots ns :=
  List.filterMap_congr fun _ hi => mixEntry_getElem?_ne fun he => h (he ▸ hi)

/-- What distinct entries of the bank add up to: the contributions, and the number, of the contributors they list. -/
theorem mixLoop_total (p : Params) (es : List SlotNo) (m : Mix) (hd : (es.map BitVec.toNat).Nodup)
    (hin : ∀ i ∈ es.map BitVec.toNat, i < m.slots.length) :
    (es.foldl (mixEntry p) m).sum =
        m.sum + ((contributors (listedSlots m.slots (es.map BitVec.toNat))).map (contribution p)).sum ∧
      (es.foldl (mixEntry p) m).n =
        m.n + (contributors (listedSlots m.slots (es.map BitVec.toNat))).length := by
  induction es generalizing m with
  | nil => simp [listedSlots, contributors]
  | cons e es ih =>
    rw [List.map_cons] at hd hin ⊢
    obtain ⟨hnew, hd⟩ := List.nodup_cons.1 hd
    obtain ⟨sl, he⟩ : ∃ sl, m.slots[e.toNat]? = some sl :=
      ⟨_, List.getElem?_eq_getElem (hin e.toNat List.mem_cons_self)⟩
    obtain ⟨hsum, hn⟩ := ih (mixEntry p m e) hd fun i hi => by
      rw [mixEntry_length]
      exact hin i (List.mem_cons_of_mem _ hi)
    have hcons : listedSlots m.slots (e.toNat :: es.map BitVec.toNat) =
        sl :: listedSlots m.slots (es.map BitVec.toNat) := List.filterMap_cons_some he
    rw [List.foldl_cons, hsum, hn, listedSlots_mixEntry p m _ hnew, hcons, mixEntry_eq he]
    by_cases hc : contributes sl = true
    · have hfilter (l : List Slot) : contributors (sl :: l) = sl :: contributors l :=
        List.filter_cons_of_pos hc
      simp only [hc, if_true, hfilter, List.map_cons, List.sum_cons, List.length_cons]
      omega
    · have hfilter (l : List Slot) : contributors (sl :: l) = contributors l :=
        List.filter_cons_of_neg hc
      simp only [hc, Bool.false_eq_true, if_false, hfilter]
      omega

end Loop

/-! ### An index that lists every busy slot lists every contributor, in slot order -/

theorem listedSlots_range (slots : List Slot) : listedSlots slots (List.range slots.length) = slots := by
  have hsome : listedSlots slots (List.range slots.length) =
      (List.range slots.length).filterMap (some ∘ fun i => slots.getD i Slot.zero) :=
    List.filterMap_congr fun i hi => by
      have hsl := List.getElem?_eq_getElem (List.mem_range.1 hi)
      rw [Function.comp_apply, getD_of_getElem? hsl, hsl]
  rw [hsome, List.filterMap_eq_map]
  refine List.ext_getElem (by simp) fun i _ hi => ?_
  rw [List.getElem_map, List.getElem_range, getD_of_getElem? (List.getElem?_eq_getElem hi)]

/-- The contributors among listed slots are the slots at the contributors' numbers. -/
theorem contributors_listedSlots (slots : List Slot) (ns : List Nat) :
    contributors (listedSlots slots ns) =
      listedSlots slots (ns.filter fun i => contributes (slots.getD i Slot.zero)) := by
  rw [contributors, listedSlots, listedSlots, List.filter_filterMap, List.filterMap_filter]
  refine List.filterMap_congr fun i _ => ?_
  cases h : slots[i]? with
  | none => simp
  | some sl =>
    rw [getD_of_getElem? h]
    rfl

theorem isBusy_of_contributes {sl : Slot} (h : contributes sl = true) : sl.isBusy = true := by
  rw [Slot.isBusy, active_of_contributes h]
  rfl

/-- A sound index lists the bank's contributors exactly, each once and in slot order (10_state.md R31). -/
theorem contributors_published {s : State} (h : IndexOk s) :
    contributors (listedSlots s.slots (publishedNumbers s)) = contributors s.slots := by
  have hnumbers : (publishedNumbers s).filter (fun i => contributes (s.slots.getD i Slot.zero)) =
      (List.range s.slots.length).filter (fun i => contributes (s.slots.getD i Slot.zero)) := by
    refine (h.ascending.filter _).eq_of_mem_iff (List.pairwise_lt_range.filter _) fun i => ?_
    simp only [List.mem_filter, List.mem_range]
    exact and_congr_left fun hc =>
      ⟨h.inBank i, fun hi => h.listsBusy i hi (isBusy_of_contributes hc)⟩
  calc contributors (listedSlots s.slots (publishedNumbers s))
      = listedSlots s.slots ((List.range s.slots.length).filter
          fun i => contributes (s.slots.getD i Slot.zero)) := by rw [contributors_listedSlots, hnumbers]
    _ = contributors (listedSlots s.slots (List.range s.slots.length)) := (contributors_listedSlots _ _).symm
    _ = contributors s.slots := by rw [listedSlots_range]

theorem publishedNumbers_nodup {s : State} (h : IndexOk s) : (publishedNumbers s).Nodup :=
  h.ascending.imp Nat.ne_of_lt

/-- Over a sound index the mixer sums and counts the contributors of the bank. -/
theorem mixSlots_total {s : State} (h : IndexOk s) :
    (mixSlots s).sum = ((contributors s.slots).map (contribution s.cfg)).sum ∧
      (mixSlots s).n = (contributors s.slots).length := by
  have htotal := mixLoop_total s.cfg (publishedEntries s) { slots := s.slots, sum := 0, n := 0 }
    (publishedNumbers_nodup h) h.inBank
  rw [Int.zero_add, Nat.zero_add] at htotal
  rw [← contributors_published h]
  exact htotal

theorem frameStep_of_inactive (p : Params) {sl : Slot} (h : ¬sl.active = true) : frameStep p sl = sl := if_neg h

/-- Settles O38: a listed slot takes its frame step by `mixLoop_listed`; an unlisted one is not busy, and stays. -/
theorem mixerAdvancesEachActiveSlotOnce : Obligations.MixerAdvancesEachActiveSlotOnce := by
  intro s _ h
  apply List.ext_getElem?
  intro i
  rw [List.getElem?_map]
  cases hsl : s.slots[i]? with
  | none =>
    have hout : (mixFrame s).slots.length ≤ i :=
      (mixSlots_length s).trans_le (List.getElem?_eq_none_iff.1 hsl)
    rw [List.getElem?_eq_none_iff.2 hout, Option.map_none]
  | some sl =>
    by_cases hi : i ∈ publishedNumbers s
    · exact mixLoop_listed s.cfg _ _ (publishedNumbers_nodup h) hi hsl
    · have hidle : ¬sl.active = true := fun ha => hi <| h.listsBusy i (List.getElem?_eq_some_iff.1 hsl).1 <| by
        rw [getD_of_getElem? hsl, Slot.isBusy, ha]
        rfl
      rw [Option.map_some, frameStep_of_inactive _ hidle, ← hsl]
      exact mixLoop_unlisted _ _ _ _ fun e he heq => hi (heq ▸ List.mem_map_of_mem he)

/-- Settles O39: the mixer's sum and count are the bank's by `mixSlots_total`; the rest is the output formula. -/
theorem frameValueIsBankAverage : Obligations.FrameValueIsBankAverage := by
  intro s _ h
  obtain ⟨hsum, hn⟩ := mixSlots_total h
  simp only [frameValue, hsum, hn]
  rfl

end Sys2Proof.Machine

/-! ## What the registers read -/

namespace Sys2Proof.Machine

/-- Two fields side by side: the upper one stands above the lower one's bits. -/
theorem toNat_append_eq_add {m n : Nat} (x : BitVec m) (y : BitVec n) :
    (x ++ y).toNat = x.toNat * 2 ^ n + y.toNat := by
  rw [BitVec.toNat_append, ← Nat.shiftLeft_add_eq_or_of_lt y.isLt, Nat.shiftLeft_eq]

theorem toNat_oneBit (b : Bool) : (if b = true then 1#1 else 0#1).toNat = b.toNat := by
  cases b <;> rfl

/-- CAPS, field by field (10_state.md R38). -/
theorem capsReg_toNat (s : State) (hn : s.slots.length ≤ 255) (hf : s.cfg.fadeLen ≤ 255) :
    (capsReg s).toNat = s.slots.length + 16 * 2 ^ 8 + 64 * 2 ^ 16 + s.cfg.fadeLen * 2 ^ 24 := by
  have hfields : (capsReg s).toNat =
      ((BitVec.ofNat 8 s.cfg.fadeLen ++ 64#8 : BitVec (8 + 8)) ++ 16#8 ++ BitVec.ofNat 8 s.slots.length).toNat := rfl
  rw [hfields]
  simp only [toNat_append_eq_add, BitVec.toNat_ofNat]
  omega

/-- STATUS, field by field (10_state.md R39). -/
theorem statusReg_toNat (s : State) :
    (statusReg s).toNat = s.initOk.toNat + 2 * s.poll.toNat + 16 * s.err.toNat := by
  have hfields : (statusReg s).toNat =
      ((0#24 ++ s.err : BitVec (24 + 4)) ++ 0#2 ++ (if s.poll then 1#1 else 0#1) ++
        (if s.initOk then 1#1 else 0#1)).toNat := rfl
  rw [hfields]
  simp only [toNat_append_eq_add, BitVec.toNat_ofNat, toNat_oneBit]
  omega

/-- COUNTS, field by field (10_state.md R41). -/
theorem countsReg_toNat (s : State) (hn : s.slots.length ≤ 255) :
    (countsReg s).toNat =
      s.slots.countP Slot.isBusy + 2 ^ 8 * s.slots.countP (·.active) + 2 ^ 16 * s.idxCount.toNat := by
  have hbusy : s.slots.countP Slot.isBusy ≤ s.slots.length := List.countP_le_length
  have hactive : s.slots.countP (·.active) ≤ s.slots.length := List.countP_le_length
  have hfields : (countsReg s).toNat =
      ((0#8 ++ s.idxCount : BitVec (8 + 8)) ++ BitVec.ofNat 8 (s.slots.countP (·.active)) ++
        BitVec.ofNat 8 (s.slots.countP Slot.isBusy)).toNat := rfl
  rw [hfields]
  simp only [toNat_append_eq_add, BitVec.toNat_ofNat]
  omega

/-- BUF_FREE: the transport's free space, or 0 before initialization (10_state.md R40). -/
theorem bufFreeReg_toNat (s : State) :
    (bufFreeReg s).toNat = if s.initOk = true then min s.env.tpFree.toNat s.env.tpCap.toNat else 0 := by
  unfold bufFreeReg
  split
  · exact space_toNat s.env
  · rfl

/-- Settles O50, one lemma for each register. -/
theorem statusRegistersReadTheirFields : Obligations.StatusRegistersReadTheirFields := fun s hn hf =>
  ⟨capsReg_toNat s hn hf, statusReg_toNat s, bufFreeReg_toNat s, countsReg_toNat s hn⟩

theorem isIdle_iff (sl : Slot) : sl.isIdle = true ↔ sl.active = false ∧ sl.scheduled = false := by
  simp [Slot.isIdle]

theorem isIdle_eq_false_iff (sl : Slot) : sl.isIdle = false ↔ sl.active = true ∨ sl.scheduled = true := by
  cases ha : sl.active <;> simp [Slot.isIdle, ha]

/-- FREE_SLOT is the first idle slot's number (40_oscillator_bank.md R115). -/
theorem freeSlotReg_of_some {s : State} {i : Nat} (h : firstFree s.slots = some i) : freeSlotReg s = u32 i := by
  simp only [freeSlotReg, h]

theorem freeSlotReg_of_none {s : State} (h : firstFree s.slots = none) : freeSlotReg s = s.cfg.noSlot := by
  simp only [freeSlotReg, h]

/-- Settles O51, by what `firstFree` finds. -/
theorem freeSlotReadsFirstIdle : Obligations.FreeSlotReadsFirstIdle := by
  refine ⟨rfl, fun s => ⟨fun i sl hsl ha hs hbefore => freeSlotReg_of_some (firstFree_eq_some.2 ?_),
    fun hbusy => freeSlotReg_of_none (firstFree_eq_none.2 fun sl hsl => (isIdle_eq_false_iff sl).2 (hbusy sl hsl))⟩⟩
  obtain ⟨hi, rfl⟩ := List.getElem?_eq_some_iff.1 hsl
  exact ⟨hi, (isIdle_iff _).2 ⟨ha, hs⟩, fun j hj =>
    (isIdle_eq_false_iff _).2 (hbefore j hj _ (List.getElem?_eq_getElem (hj.trans hi)))⟩

/-- Past FREE_SLOT the register map holds SLOT_STATUS and reserved offsets (10_state.md R37). -/
theorem regRead_of_ge (s : State) (off : Offset) (h : 0x058 ≤ off.toNat) : regRead s off = slotStatusAt s off := by
  unfold regRead
  split
  case h_23 => rfl
  all_goals omega

/-- The offset of SLOT_STATUS[i] reads that slot's register (10_state.md R43). -/
theorem regRead_slotStatus (s : State) (i : Nat) (h : 0x100 + 4 * i < 4096) :
    regRead s (BitVec.ofNat 12 (0x100 + 4 * i)) = slotStatusReg s i := by
  have hoff : (BitVec.ofNat 12 (0x100 + 4 * i)).toNat = 0x100 + 4 * i := by
    rw [BitVec.toNat_ofNat, Nat.mod_eq_of_lt h]
  have hslot : (0x100 + 4 * i - 0x100) / 4 = i := by omega
  rw [regRead_of_ge s _ (by omega), slotStatusAt, hoff, if_pos (by omega), hslot]

theorem slotStatusReg_toNat {s : State} {i : Nat} {sl : Slot} (h : s.slots[i]? = some sl) :
    (slotStatusReg s i).toNat = sl.active.toNat + 2 * sl.scheduled.toNat := by
  have hfields : (slotStatusReg s i).toNat =
      ((0#30 ++ (if sl.scheduled then 1#1 else 0#1) : BitVec (30 + 1)) ++
        (if sl.active then 1#1 else 0#1)).toNat := by
    simp only [slotStatusReg, h]
  rw [hfields]
  simp only [toNat_append_eq_add, BitVec.toNat_ofNat, toNat_oneBit]
  omega

theorem slotStatusReg_of_length_le {s : State} {i : Nat} (h : s.slots.length ≤ i) : slotStatusReg s i = 0 := by
  simp only [slotStatusReg, List.getElem?_eq_none h]

/-- Settles O52, by the register of each slot and its absence past the bank. -/
theorem slotStatusReadsFlags : Obligations.SlotStatusReadsFlags := by
  intro s i _ hi
  rw [regRead_slotStatus s i hi]
  exact ⟨fun _ hsl => slotStatusReg_toNat hsl, slotStatusReg_of_length_le⟩

/-- The reserved offsets between FREE_SLOT and SLOT_STATUS read 0 (20_memory.md R68). -/
theorem regRead_reserved (s : State) (off : Offset) (h : 0x058 ≤ off.toNat) (h' : off.toNat < 0x100) :
    regRead s off = 0 := by
  rw [regRead_of_ge s off h, slotStatusAt, if_neg (by omega)]

/-- Settles O53: each plain register is a row of the register map, and the gap reads 0. -/
theorem plainRegistersReadTheirState : Obligations.PlainRegistersReadTheirState := fun s =>
  ⟨rfl, rfl, rfl, rfl, rfl, rfl, rfl, rfl, rfl, rfl, rfl, rfl, rfl, rfl, rfl, rfl, rfl, regRead_reserved s⟩

end Sys2Proof.Machine

/-! ## R27 read of every slot: a delayed arm breaks it -/

namespace Sys2Proof.Machine

/-- A slot whose tone of 100 samples has ended: R178 leaves its play count at its duration. -/
def endedTone : Slot := { Slot.zero with amp := 7, dur := 100, played := 100 }

/-- An engine at 44100 Hz whose only slot's tone has ended, and a PLAY of 1 ms with a delay of 50 ms waiting in the
operands and as the host's next access. -/
def rearming : State :=
  { State.reset with
    slots := [endedTone], idxEntry := [0], initOk := true, sr := 44100, cap := 4096, accInc := 22050
    arg0 := 0x01B80000, arg1 := 128, arg2 := 1, arg3 := 50
    env := { Env.reset with tpCap := 4096, program := [cmdWrite 0x00000002] } }

/-- The operands of that PLAY: 1 ms is 44 samples. -/
def rearmingOperands : ArmOperands := { inc := 42852281, amp := 128, dur := 44, delay := 50 }

theorem rearming_inv : Inv rearming where
  params := by decide
  bank := ⟨by decide, by decide, by decide⟩
  slots sl hsl := by
    rw [List.mem_singleton.1 hsl]
    exact Slot.ok_of_inactive rfl (Nat.zero_le _)
  index := ⟨by decide, by decide, by decide, by decide⟩
  engine := ⟨by decide, by decide, by decide, by decide, by decide, by decide, by decide⟩

/-- The step runs the PLAY, which arms the ended slot for later. -/
theorem step_rearming :
    step rearming = .next (finish 0 (armSlot 0 rearmingOperands (rearming.withProgram []))) := by
  rw [step_action rearming (cmdWrite 0x00000002) [] rfl rfl, perform_cmdWrite, issue_ok _ .play _ (by decide)]
  exact exec_play_arms _ rfl (o := rearmingOperands) (by decide) (by decide)

/-- Refutes O57: from `rearming`, which meets the invariant and R27, the delayed arm leaves its slot with a play count
of 100 and a duration of 44 (40_oscillator_bank.md R116, R118). -/
theorem not_playedWithinDurationOfEverySlot : ¬ Obligations.PlayedWithinDurationOfEverySlot := by
  intro h
  have hslot : armed 0 rearmingOperands endedTone ∈
      (finish 0 (armSlot 0 rearmingOperands (rearming.withProgram []))).slots := List.mem_singleton_self _
  have hbound := h rearming _ rearming_inv (by decide) step_rearming _ hslot (by decide)
  exact absurd hbound (by decide)

end Sys2Proof.Machine

/-! ## A host access: refused, a command, a stored operand or a recorded read -/

namespace Sys2Proof.Machine

theorem accessLegal_iff (width : Width) (off : Offset) :
    accessLegal width off = true ↔ width = .word ∧ off.toNat % 4 = 0 := by
  simp [accessLegal]

theorem accessLegal_eq_false_iff (width : Width) (off : Offset) :
    accessLegal width off = false ↔ width ≠ .word ∨ off.toNat % 4 ≠ 0 := by
  rw [Bool.eq_false_iff, ne_eq, accessLegal_iff, not_and_or]

section Access

variable {width : Width} {off : Offset}

theorem perform_wr_refused (h : accessLegal width off = false) (v : Word) (s : State) :
    perform (.wr width off v) s = .refused .badAccess := by
  simp only [perform, hostWrite, h, Bool.not_false, if_true]

theorem perform_rd_refused (h : accessLegal width off = false) (s : State) :
    perform (.rd width off) s = .refused .badAccess := by
  simp only [perform, hostRead, h, Bool.not_false, if_true]

theorem perform_wr_cmd (h : accessLegal width cmdOffset = true) (v : Word) (s : State) :
    perform (.wr width cmdOffset v) s = issue v s := by
  simp only [perform, hostWrite, h, Bool.not_true, Bool.false_eq_true, if_false, if_true]

theorem perform_wr_register (h : accessLegal width off = true) (hoff : off ≠ cmdOffset) (v : Word) (s : State) :
    perform (.wr width off v) s = .next (regWrite off v s) := by
  simp only [perform, hostWrite, h, hoff, Bool.not_true, Bool.false_eq_true, if_false]

theorem perform_rd_legal (h : accessLegal width off = true) (s : State) :
    perform (.rd width off) s = .next (recordRead off s) := by
  simp only [perform, hostRead, h, Bool.not_true, Bool.false_eq_true, if_false]

end Access

/-- A register write, field by field: each operand takes the value at its own offset (45_system.md R233). -/
theorem regWrite_eq (off : Offset) (v : Word) (s : State) :
    regWrite off v s = { s with
      arg0 := if off = 0x010 then v else s.arg0
      arg1 := if off = 0x014 then v else s.arg1
      arg2 := if off = 0x018 then v else s.arg2
      arg3 := if off = 0x01C then v else s.arg3 } := by
  unfold regWrite
  split
  · next h => obtain rfl : off = 0x010 := BitVec.eq_of_toNat_eq h; rfl
  · next h => obtain rfl : off = 0x014 := BitVec.eq_of_toNat_eq h; rfl
  · next h => obtain rfl : off = 0x018 := BitVec.eq_of_toNat_eq h; rfl
  · next h => obtain rfl : off = 0x01C := BitVec.eq_of_toNat_eq h; rfl
  · next h0 h1 h2 h3 =>
    rw [if_neg fun h => h0 (congrArg BitVec.toNat h), if_neg fun h => h1 (congrArg BitVec.toNat h),
      if_neg fun h => h2 (congrArg BitVec.toNat h), if_neg fun h => h3 (congrArg BitVec.toNat h)]

/-- Settles O47: the write is one of a register other than CMD, which `regWrite_eq` gives field by field. -/
theorem hostWritesStoreOperandsOnly : Obligations.HostWritesStoreOperandsOnly := by
  intro s off v rest hp hpr hal hoff
  rw [step_action s _ rest hp hpr, perform_wr_register ((accessLegal_iff _ _).2 ⟨rfl, hal⟩) hoff, regWrite_eq]
  rfl

/-- A read of the state with its program shortened returns what it returns of the state: no register shows the
program. -/
theorem regRead_withProgram (s : State) (rest : List Action) (off : Offset) :
    regRead (s.withProgram rest) off = regRead s off := rfl

/-- Settles O48: a legal read does nothing but record the value of `regRead`. -/
theorem hostReadChangesNothing : Obligations.HostReadChangesNothing := by
  intro s off rest hp hpr hal
  rw [step_action s _ rest hp hpr, perform_rd_legal ((accessLegal_iff _ _).2 ⟨rfl, hal⟩), recordRead,
    regRead_withProgram]
  rfl

/-- Settles O49: an access that is not `accessLegal` is refused, a write and a read alike. -/
theorem malformedAccessRefused : Obligations.MalformedAccessRefused := by
  intro s width off v rest hp hpr hbad
  have hillegal := (accessLegal_eq_false_iff width off).2 hbad
  rcases hpr with hpr | hpr
  · rw [step_action s _ rest hp hpr, perform_wr_refused hillegal]
  · rw [step_action s _ rest hp hpr, perform_rd_refused hillegal]

end Sys2Proof.Machine

/-! ## Every legal action, and so every step, completes -/

namespace Sys2Proof.Machine

/-- A CMD write completes: a legal word runs an operation, which `exec_completes`; an illegal one is rejected. -/
theorem issue_completes (w : Word) (s : State) : ∃ t, issue w s = .next t := by
  cases hd : decode w with
  | ok i => exact issue_ok w i s hd ▸ exec_completes i s
  | error e => exact ⟨_, issue_error w e s hd⟩

theorem perform_completes {a : Action} (h : a.legal = true) (s : State) : ∃ t, perform a s = .next t := by
  cases a with
  | wr width off v =>
    by_cases hoff : off = cmdOffset
    · subst hoff
      exact perform_wr_cmd h v s ▸ issue_completes v s
    · exact ⟨_, perform_wr_register h hoff v s⟩
  | rd width off => exact ⟨_, perform_rd_legal h s⟩
  | cutCommand w k =>
    obtain ⟨t, ht⟩ := issue_completes w s
    exact ⟨_, perform_cutCommand w k s t ht⟩
  | _ => exact ⟨_, rfl⟩

/-- A pending tick's step completes, abandoned by a reset pulse or not (44_pacing.md R202, log 3). -/
theorem step_pending_completes {s : State} (h : s.tickPending = true) : ∃ t, step s = .next t := by
  by_cases hr : NextResets s
  · obtain ⟨k, rest, hpr⟩ := hr
    obtain ⟨u, hu⟩ := exec_completes .tick (s.withProgram rest)
    rw [step_pending_reset s k rest h hpr, hu]
    exact ⟨_, rfl⟩
  · exact step_pending s h hr ▸ exec_completes .tick s

/-- Settles O10: a pending tick's step completes in every state, and without one the next action is legal. -/
theorem stepNeverStops : Obligations.StepNeverStops := by
  intro s h
  by_cases hp : s.tickPending = true
  · exact step_pending_completes hp
  · have hlegal := h.resolve_left hp
    rw [Bool.not_eq_true] at hp
    cases hpr : s.env.program with
    | nil => exact ⟨s, step_idle s hp hpr⟩
    | cons a rest =>
      rw [step_action s a rest hp hpr]
      exact perform_completes (hlegal a (by rw [hpr]; rfl)) _

end Sys2Proof.Machine

/-! ## The world changes by calls alone, in three operations -/

namespace Sys2Proof.Machine

/-- Every call is recorded (log 15). -/
theorem foldl_call_calls (cs : List PortCall) (e : Env) :
    (cs.foldl Env.call e).calls = cs.reverse ++ e.calls := by
  induction cs generalizing e with
  | nil => rfl
  | cons c cs ih =>
    have hcall : (e.call c).calls = c :: e.calls := by rw [call_spec]
    rw [List.foldl_cons, ih, hcall, List.reverse_cons, List.append_assoc, List.singleton_append]

/-- The world `e'` is what some calls of the block, one after another, made of `e`. -/
def ReachedByCalls (e e' : Env) : Prop := ∃ cs : List PortCall, e' = cs.foldl Env.call e

theorem ReachedByCalls.refl (e : Env) : ReachedByCalls e e := ⟨[], rfl⟩

theorem ReachedByCalls.call {e e' : Env} (h : ReachedByCalls e e') (c : PortCall) :
    ReachedByCalls e (e'.call c) := by
  obtain ⟨cs, rfl⟩ := h
  exact ⟨cs ++ [c], by rw [List.foldl_append, List.foldl_cons, List.foldl_nil]⟩

/-- A frame is two calls, one write for each channel (44_pacing.md R211). -/
theorem ReachedByCalls.afterFrame {e : Env} {s : State} (h : ReachedByCalls e s.env) :
    ReachedByCalls e (afterFrame s).env :=
  (h.call (.tpWrite (BitVec.ofInt 16 (frameValue s)))).call (.tpWrite (BitVec.ofInt 16 (frameValue s)))

theorem tickStep_reachedByCalls {s t : State} (h : tickStep s = some t) : ReachedByCalls s.env t.env :=
  tickStep_keeps (P := fun u => ReachedByCalls s.env u.env) (fun _ hu => hu.call .tpAvail)
    (fun _ hu => hu.afterFrame) (fun _ hu => hu) (fun _ hu => hu) (fun _ hu => hu)
    ((ReachedByCalls.refl s.env).call .tpAvail) h

theorem pollDrain_reachedByCalls {s t : State} (h : pollDrain s = some t) : ReachedByCalls s.env t.env :=
  drainLoop_keeps (P := fun u => ReachedByCalls s.env u.env) (fun _ hu => hu.call .tpAvail)
    (fun _ hu => hu.afterFrame) (ReachedByCalls.refl s.env) h

/-- INIT calls nothing at a bad rate, TpBegin where the bring-up fails, and TmRegister after it where it succeeds
(45_system.md R240). -/
theorem exec_init_reachedByCalls {s t : State} (h : exec .init s = .next t) : ReachedByCalls s.env t.env := by
  have hbegin := (ReachedByCalls.refl s.env).call (.tpBegin s.arg0 s.arg1)
  cases hr : rateLegal s.cfg s.arg0 with
  | false =>
    cases (exec_init_badRate s hr).symm.trans h
    exact .refl _
  | true =>
    cases hb : bringUpOk (s.env.begin s.arg0 s.arg1) with
    | false =>
      cases (exec_init_noTransport s hr hb).symm.trans h
      exact hbegin
    | true =>
      cases (exec_init_ok s hr hb).symm.trans h
      exact hbegin.call (.tmRegister (timerPeriod s.cfg))

theorem BankUpdate.env {s t : State} (h : BankUpdate s t) : t.env = s.env := by cases h <;> rfl

/-- The operations that call a collaborator: TICK, INIT, and UPDATE on an initialized engine in polling mode. -/
def MayCall (i : Instr) (s : State) : Prop :=
  i = .tick ∨ i = .init ∨ (i = .update ∧ s.initOk = true ∧ s.poll = true)

/-- An operation leaves the world as it is, or is one of the three that call out and changes it by its calls. -/
theorem exec_env_cases {i : Instr} {s t : State} (h : exec i s = .next t) :
    t.env = s.env ∨ (MayCall i s ∧ ReachedByCalls s.env t.env) := by
  have he := effect_of_exec h
  cases he with
  | status i e r => exact .inl rfl
  | bank i r _ hu => exact .inl hu.env
  | drained r hi hp hu hv =>
    have hdrain := pollDrain_reachedByCalls hv
    rw [hu.env] at hdrain
    exact .inr ⟨.inr (.inr ⟨rfl, hi, hp⟩), hdrain⟩
  | snapped => exact .inl rfl
  | initFails e env => exact .inr ⟨.inr (.inl rfl), exec_init_reachedByCalls h⟩
  | initSucceeds _ _ => exact .inr ⟨.inr (.inl rfl), exec_init_reachedByCalls h⟩
  | ticked ht => exact .inr ⟨.inl rfl, tickStep_reachedByCalls ht⟩

/-- Settles O60: no calls where the world stays, and the calls of one of the three operations where it does not. -/
theorem onlyThreeOperationsCallOut : Obligations.OnlyThreeOperationsCallOut := by
  intro i s t h
  rcases exec_env_cases h with henv | ⟨hmay, cs, henv⟩
  · exact ⟨[], by rw [henv]; rfl, henv, fun hne => absurd rfl hne⟩
  · exact ⟨cs, by rw [henv, foldl_call_calls], henv, fun _ => hmay⟩

end Sys2Proof.Machine

/-! ## Command words: a word is its three fields -/

namespace Sys2Proof

theorem word_toNat_eq_fields (w : Word) :
    w.toNat = (rsvField w).toNat * 65536 + (slotField w).toNat * 256 + (opcField w).toNat := by
  rw [rsvField_toNat, slotField_toNat, opcField_toNat]
  omega

theorem word_ext {v w : Word} (hr : rsvField v = rsvField w) (hs : slotField v = slotField w)
    (ho : opcField v = opcField w) : v = w := by
  apply BitVec.eq_of_toNat_eq
  rw [word_toNat_eq_fields v, word_toNat_eq_fields w, hr, hs, ho]

theorem rsvField_and (v w : Word) : rsvField (v &&& w) = rsvField v &&& rsvField w := BitVec.extractLsb'_and

theorem slotField_and (v w : Word) : slotField (v &&& w) = slotField v &&& slotField w := BitVec.extractLsb'_and

theorem opcField_and (v w : Word) : opcField (v &&& w) = opcField v &&& opcField w := BitVec.extractLsb'_and

theorem rsvField_ne_zero_iff (w : Word) : rsvField w ≠ 0 ↔ w.toNat / 65536 ≠ 0 := by
  rw [ne_eq, BitVec.toNat_eq, rsvField_toNat]
  rfl

theorem slotField_ne_zero_iff (w : Word) : slotField w ≠ 0 ↔ w.toNat / 256 % 256 ≠ 0 := by
  rw [ne_eq, BitVec.toNat_eq, slotField_toNat]
  rfl

/-! ## Decoding and encoding are inverse to each other -/

section Codec

variable {w : Word} {i : Instr}

theorem slotless_commandWord (i : Instr) (o : Byte) : slotless i (commandWord 0 o) = .ok i :=
  if_pos ⟨rsvField_commandWord 0 o, slotField_commandWord 0 o⟩

theorem slotted_commandWord (f : SlotNo → Instr) (n : SlotNo) (o : Byte) :
    slotted f (commandWord n o) = .ok (f n) := by
  rw [slotted, if_pos (rsvField_commandWord n o), slotField_commandWord]

theorem decode_of_encode (h : encode i = some w) : decode w = .ok i := by
  cases i with
  | tick => cases h
  | playCh n => cases h; rw [decode, opcField_commandWord]; exact slotted_commandWord .playCh n _
  | stop n => cases h; rw [decode, opcField_commandWord]; exact slotted_commandWord .stop n _
  | cancel n => cases h; rw [decode, opcField_commandWord]; exact slotted_commandWord .cancel n _
  | _ => cases h; rw [decode, opcField_commandWord]; exact slotless_commandWord _ _

/-- The word of an opcode without a slot that passes its checks is the one of the operation it decodes to. -/
theorem encode_of_slotless {j : Instr} {k : Nat} (hopc : (opcField w).toNat = k)
    (henc : encode j = some (commandWord 0 (BitVec.ofNat 8 k))) (h : slotless j w = .ok i) : encode i = some w := by
  subst hopc
  unfold slotless at h
  split at h
  · next hzero =>
    obtain ⟨hrsv, hslot⟩ := hzero
    cases h
    rw [henc, BitVec.ofNat_toNat, BitVec.setWidth_eq, ← hslot, ← word_of_fields w hrsv]
  · cases h

/-- The word of an opcode with a slot that passes its check is the one of the operation it decodes to. -/
theorem encode_of_slotted {f : SlotNo → Instr} {k : Nat} (hopc : (opcField w).toNat = k)
    (henc : ∀ n, encode (f n) = some (commandWord n (BitVec.ofNat 8 k))) (h : slotted f w = .ok i) :
    encode i = some w := by
  subst hopc
  unfold slotted at h
  split at h
  · next hrsv =>
    cases h
    rw [henc, BitVec.ofNat_toNat, BitVec.setWidth_eq, ← word_of_fields w hrsv]
  · cases h

theorem encode_of_decode (h : decode w = .ok i) : encode i = some w := by
  unfold decode at h
  split at h
  case h_4 hopc => exact encode_of_slotted hopc (fun _ => rfl) h
  case h_5 hopc => exact encode_of_slotted hopc (fun _ => rfl) h
  case h_7 hopc => exact encode_of_slotted hopc (fun _ => rfl) h
  case h_10 => cases h
  all_goals next hopc => exact encode_of_slotless hopc rfl h

theorem decode_eq_ok_iff (w : Word) (i : Instr) : decode w = .ok i ↔ encode i = some w :=
  ⟨encode_of_decode, decode_of_encode⟩

end Codec

/-- An operation is well formed exactly where it has a word (30_encoding.md R94, R95). -/
theorem wellFormed_eq_isSome_encode (i : Instr) : i.wellFormed = (encode i).isSome := by
  cases i with
  | nop => exact Laws.HasWord.nop
  | init => exact Laws.HasWord.init
  | play => exact Laws.HasWord.play
  | playCh n => exact Laws.HasWord.playCh n
  | stop n => exact Laws.HasWord.stop n
  | stopAll => exact Laws.HasWord.stopAll
  | cancel n => exact Laws.HasWord.cancel n
  | update => exact Laws.HasWord.update
  | diagSnap => exact Laws.HasWord.diagSnap
  | tick => exact Laws.HasWord.tick

/-- Settles O1: a well-formed operation has a word, and `decode_of_encode` reads it back. -/
theorem decodeEncodeRoundTrip : Obligations.DecodeEncodeRoundTrip := by
  intro i hwf
  rw [wellFormed_eq_isSome_encode] at hwf
  obtain ⟨w, hw⟩ := Option.isSome_iff_exists.1 hwf
  exact ⟨w, hw, decode_of_encode hw⟩

/-- Settles O2: `encode_of_decode`, and what has a word is well formed. -/
theorem decodedWordIsItsEncoding : Obligations.DecodedWordIsItsEncoding := by
  intro w i h
  have hw := encode_of_decode h
  exact ⟨by rw [wellFormed_eq_isSome_encode, hw, Option.isSome_some], hw⟩

/-- Settles O4: each word is the encoding of its operation. -/
theorem writtenOutWordsDecode : Obligations.WrittenOutWordsDecode :=
  ⟨decode_of_encode rfl, decode_of_encode rfl, decode_of_encode rfl, decode_of_encode rfl, decode_of_encode rfl,
    decode_of_encode rfl, decode_of_encode rfl, decode_of_encode rfl, decode_of_encode rfl⟩

/-! ## The pattern table -/

/-- A row without a slot fits its operation's word only: its mask keeps every bit. -/
theorem masked_eq_iff_decode {i : Instr} {m : Word} (henc : encode i = some m) (w : Word) :
    w &&& 0xFFFFFFFF#32 = m ↔ decode w = .ok i := by
  rw [decode_eq_ok_iff, henc, Option.some_inj, eq_comm, show w &&& 0xFFFFFFFF#32 = w from BitVec.and_allOnes]

/-- The mask of a row with a slot drops the SLOT field and keeps the other two. -/
theorem slotMasked_eq_commandWord_iff (w : Word) (o : Byte) :
    w &&& 0xFFFF00FF#32 = commandWord 0 o ↔ commandWord (slotField w) o = w := by
  have hrsv : rsvField (w &&& 0xFFFF00FF#32) = rsvField w := (rsvField_and w _).trans BitVec.and_allOnes
  have hslot : slotField (w &&& 0xFFFF00FF#32) = 0 := (slotField_and w _).trans BitVec.and_zero
  have hopc : opcField (w &&& 0xFFFF00FF#32) = opcField w := (opcField_and w _).trans BitVec.and_allOnes
  constructor
  · intro h
    rw [h, rsvField_commandWord] at hrsv
    rw [h, opcField_commandWord] at hopc
    rw [hopc, ← word_of_fields w hrsv.symm]
  · intro h
    apply word_ext
    · rw [hrsv, ← h, rsvField_commandWord, rsvField_commandWord]
    · rw [hslot, slotField_commandWord]
    · rw [hopc, ← h, opcField_commandWord, opcField_commandWord]

/-- A row with a slot fits the words of its operation, with every SLOT. -/
theorem slotMasked_eq_iff_decode {f : SlotNo → Instr} {o : Byte}
    (henc : ∀ n, encode (f n) = some (commandWord n o)) (w : Word) :
    w &&& 0xFFFF00FF#32 = commandWord 0 o ↔ decode w = .ok (f (slotField w)) := by
  rw [decode_eq_ok_iff, henc, Option.some_inj, slotMasked_eq_commandWord_iff]

/-- Every row's mask keeps the opcode, so a word that fits a row has the row's opcode. -/
theorem opcField_of_matchesRow {w : Word} {row : Word × Word} (hrow : row ∈ patternTable)
    (h : matchesRow w row = true) : opcField row.1 = opcField w := by
  have hmask : ∀ r ∈ patternTable, opcField r.2 = 0xFF#8 := by simp [patternTable, opcField]
  rw [← eq_of_beq h, opcField_and, hmask row hrow]
  exact BitVec.and_allOnes

/-- No two rows have one opcode, so no two rows match the same word (30_encoding.md R95). -/
theorem patternTable_matches_le_one (w : Word) : (patternTable.filter (matchesRow w)).length ≤ 1 := by
  have hdistinct : (patternTable.map (fun row => opcField row.1)).Nodup := by decide
  have hsame : (patternTable.filter (matchesRow w)).map (fun row => opcField row.1) =
      List.replicate (patternTable.filter (matchesRow w)).length (opcField w) :=
    List.map_eq_replicate_iff.2 fun row hrow =>
      opcField_of_matchesRow (List.mem_of_mem_filter hrow) (List.of_mem_filter hrow)
  have hnodup := hdistinct.sublist ((List.filter_sublist (p := matchesRow w)).map _)
  rwa [hsame, List.nodup_replicate] at hnodup

/-- Settles O3: a row's mask keeps every field the decoder checks, and each row has an opcode of its own. -/
theorem patternTableIsExact : Obligations.PatternTableIsExact := fun w =>
  ⟨masked_eq_iff_decode rfl w, masked_eq_iff_decode rfl w, masked_eq_iff_decode rfl w,
    slotMasked_eq_iff_decode (f := .playCh) (o := 0x03) (fun _ => rfl) w,
    slotMasked_eq_iff_decode (f := .stop) (o := 0x04) (fun _ => rfl) w, masked_eq_iff_decode rfl w,
    slotMasked_eq_iff_decode (f := .cancel) (o := 0x06) (fun _ => rfl) w, masked_eq_iff_decode rfl w,
    masked_eq_iff_decode rfl w, patternTable_matches_le_one w⟩

/-! ## Illegal words -/

section Illegal

variable {w : Word}

theorem slotless_reserved (i : Instr) (h : rsvField w ≠ 0 ∨ slotField w ≠ 0) : slotless i w = .error .reserved :=
  if_neg fun ⟨hrsv, hslot⟩ => h.elim (absurd hrsv) (absurd hslot)

theorem slotted_reserved (f : SlotNo → Instr) (h : rsvField w ≠ 0) : slotted f w = .error .reserved := if_neg h

theorem decode_badOpcode (h : 9 ≤ (opcField w).toNat) : decode w = .error .badOpcode := by
  unfold decode
  split
  case h_10 => rfl
  all_goals omega

/-- A legal opcode with a reserved bit set, or with a slot where it takes none (30_encoding.md R96, step 2). -/
theorem decode_reserved (hopc : (opcField w).toNat < 9)
    (h : rsvField w ≠ 0 ∨
      (slotField w ≠ 0 ∧ ¬((opcField w).toNat = 3 ∨ (opcField w).toNat = 4 ∨ (opcField w).toNat = 6))) :
    decode w = .error .reserved := by
  unfold decode
  split
  case h_4 hop => exact slotted_reserved _ (h.resolve_right fun hs => hs.2 (.inl hop))
  case h_5 hop => exact slotted_reserved _ (h.resolve_right fun hs => hs.2 (.inr (.inl hop)))
  case h_7 hop => exact slotted_reserved _ (h.resolve_right fun hs => hs.2 (.inr (.inr hop)))
  case h_10 => simp only [imp_false] at *; omega
  all_goals exact slotless_reserved _ (h.imp_right And.left)

end Illegal

end Sys2Proof

/-! ## A CMD write runs the decoded command or rejects the word -/

namespace Sys2Proof.Machine

theorem step_cmdWrite {s : State} {w : Word} {rest : List Action} (hp : s.tickPending = false)
    (hpr : s.env.program = cmdWrite w :: rest) : step s = issue w (s.withProgram rest) := by
  rw [step_action s (cmdWrite w) rest hp hpr, perform_cmdWrite]

/-- Settles O5: the fields of the word decide the decoder's error, and `issue_error` rejects with its code. -/
theorem illegalWordsRejected : Obligations.IllegalWordsRejected := by
  intro s w rest hp hpr
  rw [step_cmdWrite hp hpr, ← opcField_toNat, ← rsvField_ne_zero_iff, ← slotField_ne_zero_iff]
  constructor
  · intro hopc
    rw [issue_error w _ _ (decode_badOpcode hopc)]
    rfl
  · intro hopc hbits
    rw [issue_error w _ _ (decode_reserved hopc hbits)]
    rfl

/-- Settles O6: the write is issued, and a word that decodes runs its operation (`issue_ok`). -/
theorem stepRunsDecodedCommand : Obligations.StepRunsDecodedCommand := by
  intro s w i rest hp hpr hd
  rw [step_cmdWrite hp hpr, issue_ok w i _ hd]
  rfl

/-- Settles O15: the first check of each of the six commands rejects (`exec_notInit`). -/
theorem uninitializedEngineRejects : Obligations.UninitializedEngineRejects := by
  intro s n i hinit hi
  rw [exec_notInit s hinit n i (by simpa using hi)]
  rfl

/-- Settles O16: the slot is not in the bank, so the second check of each command rejects (`exec_badSlot`). -/
theorem slotOutOfRangeRejected : Obligations.SlotOutOfRangeRejected := by
  intro s n i hinit hn hi
  have hslot : slotLegal s n = false := Bool.eq_false_iff.2 (mt (slotLegal_iff s n).1 hn.not_gt)
  rw [exec_badSlot s hinit n hslot i (by simpa using hi)]
  rfl

end Sys2Proof.Machine

/-! ## Drained and ticked frames are the mixer's -/

namespace Sys2Proof.Machine

/-! ### The state after written frames -/

/-- `t` is `s` after `n` written frames: the mixer has run `n` times and its frames stand in the record of calls. The
accumulator, the counters, the pending flag and the world are free. -/
structure AfterFrames (s : State) (n : Nat) (t : State) : Prop where
  mixed : t = { mixFrame^[n] s with acc := t.acc, diag := t.diag, tickPending := t.tickPending, env := t.env }
  written : WritesFrames s t (framesFrom s n)

theorem framesFrom_length (s : State) (n : Nat) : (framesFrom s n).length = n := by simp [framesFrom]

theorem framesFrom_succ (s : State) (n : Nat) :
    framesFrom s (n + 1) = framesFrom s n ++ [BitVec.ofInt 16 (frameValue (mixFrame^[n] s))] := by
  simp [framesFrom, List.range_succ]

theorem channelSamples_query (e : Env) : channelSamples e.query.calls = channelSamples e.calls := by
  rw [query_spec e]
  simp [channelSamples]

/-- A frame is one sample, sent left and right (44_pacing.md R211). -/
theorem channelSamples_afterFrame (s : State) :
    channelSamples (afterFrame s).env.calls =
      channelSamples s.env.calls ++ [BitVec.ofInt 16 (frameValue s), BitVec.ofInt 16 (frameValue s)] := by
  simp [channelSamples, afterFrame]

namespace AfterFrames

variable {s u : State} {n : Nat}

theorem refl (s : State) : AfterFrames s 0 s := ⟨rfl, by simp [WritesFrames, framesFrom]⟩

/-- Counters, accumulator and pending flag are free. -/
theorem counted (h : AfterFrames s n u) (acc : Word) (diag : Counters) (pending : Bool) :
    AfterFrames s n { u with acc := acc, diag := diag, tickPending := pending } :=
  ⟨congrArg (fun x : State => { x with acc := acc, diag := diag, tickPending := pending }) h.mixed, h.written⟩

theorem query (h : AfterFrames s n u) : AfterFrames s n (query u) :=
  ⟨congrArg (fun x : State => x.withEnv u.env.query) h.mixed,
    (channelSamples_query u.env).trans h.written⟩

/-- What is read of the state, read through the frames. -/
theorem field {α : Type} (h : AfterFrames s n u) (f : State → α) :
    f u = f { mixFrame^[n] s with acc := u.acc, diag := u.diag, tickPending := u.tickPending, env := u.env } :=
  congrArg f h.mixed

theorem slots (h : AfterFrames s n u) : u.slots = (mixFrame^[n] s).slots := h.field State.slots

theorem rng (h : AfterFrames s n u) : u.rng = (mixFrame^[n] s).rng := h.field State.rng

/-- One frame more: the mixer reads nothing of what is free. -/
theorem afterFrame (h : AfterFrames s n u) : AfterFrames s (n + 1) (afterFrame u) := by
  have hvalue : frameValue u = frameValue (mixFrame^[n] s) := h.field frameValue
  refine ⟨?_, ?_⟩
  · rw [Function.iterate_succ_apply']
    exact congrArg (fun x : State => (mixFrame x).withEnv (Machine.afterFrame u).env) h.mixed
  · have hwritten : channelSamples u.env.calls = _ := h.written
    rw [WritesFrames, channelSamples_afterFrame, hwritten, framesFrom_succ, hvalue]
    simp

end AfterFrames

/-- A tick step is its mixer's frames, some number of them (44_pacing.md R202). -/
theorem tickStep_afterFrames {s t : State} (ht : tickStep s = some t) : ∃ n, AfterFrames s n t :=
  tickStep_keeps (P := fun u => ∃ n, AfterFrames s n u) (fun _ ⟨n, h⟩ => ⟨n, h.query⟩)
    (fun _ ⟨n, h⟩ => ⟨n + 1, h.afterFrame⟩) (fun u ⟨n, h⟩ => ⟨n, h.counted u.acc _ u.tickPending⟩)
    (fun u ⟨n, h⟩ => ⟨n, h.counted u.acc _ u.tickPending⟩) (fun u ⟨n, h⟩ => ⟨n, h.counted u.acc _ u.tickPending⟩)
    ⟨0, ((AfterFrames.refl s).counted _ _ false).query⟩ ht

/-- A drain of at most `k` frames adds at most `k` (44_pacing.md R214). -/
theorem drainLoop_afterFrames {s u t : State} {k n : Nat} (h : AfterFrames s n u) (ht : drainLoop k u = some t) :
    ∃ m ≤ n + k, AfterFrames s m t := by
  induction k generalizing u n with
  | zero => cases ht; exact ⟨n, le_rfl, h⟩
  | succ k ih =>
    by_cases hspace : tpAvail (query u) < 4
    · simp only [drainLoop, hspace, if_true, Option.some.injEq] at ht
      exact ⟨n, Nat.le_add_right _ _, ht ▸ h.query⟩
    · simp only [drainLoop, hspace, if_false, putFrame_eq_some (query u) (by simpa [tpAvail] using hspace),
        Option.bind_some] at ht
      obtain ⟨m, hm, hframes⟩ := ih h.query.afterFrame ht
      exact ⟨m, by omega, hframes⟩

theorem pollDrain_afterFrames {s t : State} (ht : pollDrain s = some t) :
    ∃ n ≤ s.cap.toNat / 4, AfterFrames s n t := by
  obtain ⟨n, hn, hframes⟩ := drainLoop_afterFrames (AfterFrames.refl s) ht
  exact ⟨n, by simpa using hn, hframes⟩

/-- The drain counts nothing (44_pacing.md R214). -/
theorem pollDrain_keepsCounters {s t : State} (ht : pollDrain s = some t) :
    t.acc = s.acc ∧ t.diag = s.diag ∧ t.tickPending = s.tickPending :=
  drainLoop_keeps (P := fun u => u.acc = s.acc ∧ u.diag = s.diag ∧ u.tickPending = s.tickPending)
    (fun _ h => h) (fun _ h => h) ⟨rfl, rfl, rfl⟩ ht

/-! ### Frames over a sound index -/

theorem BankSized.mixFrame {s : State} (h : BankSized s) : BankSized (mixFrame s) :=
  h.of_lengths (mixSlots_length s) rfl

/-- A frame makes no slot busy, so it leaves the index sound. -/
theorem IndexOk.mixFrame {s : State} (h : IndexOk s) : IndexOk (mixFrame s) :=
  h.of_quieter rfl rfl <|
    mixFrame_forall₂ (fun _ b hr hact _ => hr (by rw [Slot.isBusy, hact]; rfl)) (List.forall₂_same.2 fun _ _ hb => hb)

theorem mixFrame_iterate_rng (s : State) (n : Nat) : (mixFrame^[n] s).rng = ditherNext^[n] s.rng :=
  have hsemi : Function.Semiconj State.rng mixFrame ditherNext := fun _ => rfl
  hsemi.iterate_right n s

/-- Over a sound index, `n` frames are `n` frame steps of every slot (10_state.md R31). -/
theorem mixFrame_iterate_slots {s : State} (hb : BankSized s) (hi : IndexOk s) (n : Nat) :
    (mixFrame^[n] s).slots = s.slots.map ((frameStep s.cfg)^[n]) := by
  induction n generalizing s with
  | zero => simp
  | succ n ih =>
    have hcfg : (mixFrame s).cfg = s.cfg := rfl
    rw [Function.iterate_succ_apply, ih hb.mixFrame hi.mixFrame, hcfg, mixerAdvancesEachActiveSlotOnce s hb hi,
      List.map_map, Function.iterate_succ]

/-! ### What a published index says is read off the bank and the index alone -/

theorem publishedNumbers_congr {t u : State} (he : t.idxEntry = u.idxEntry) (hc : t.idxCount = u.idxCount) :
    publishedNumbers t = publishedNumbers u := by
  simp only [publishedNumbers, publishedEntries, he, hc]

theorem ListsExactlyBusy.of_index_eq {t u : State} (h : ListsExactlyBusy u) (hs : t.slots = u.slots)
    (he : t.idxEntry = u.idxEntry) (hc : t.idxCount = u.idxCount) : ListsExactlyBusy t where
  ascending := publishedNumbers_congr he hc ▸ h.ascending
  exactly i := by
    rw [publishedNumbers_congr he hc, hs]
    exact h.exactly i

theorem KeepsUnpublished.of_index_eq {s t u : State} (h : KeepsUnpublished s u) (he : t.idxEntry = u.idxEntry)
    (hc : t.idxCount = u.idxCount) : KeepsUnpublished s t := fun j hj => by
  rw [he]
  exact h j (hc ▸ hj)

/-! ### The activation sweep -/

theorem swept_eq_afterSweep : swept = afterSweep := by
  funext now sl
  simp only [swept, afterSweep, isDue_iff, activated]

theorem dueCount_eq_dueSlots (s : State) : dueCount s = dueSlots s.env.now s.slots := by
  simp only [dueCount, dueSlots, ← isDue_iff, Bool.decide_eq_true]

@[simp] theorem sweep_env (s : State) : (sweep s).env = s.env := (sweep_bankUpdate s).env

@[simp] theorem sweep_slots (s : State) : (sweep s).slots = s.slots.map (afterSweep s.env.now) := by
  simp only [sweep, swept_eq_afterSweep]
  split <;> rfl

/-- The sweep writes the bank and the index alone. -/
theorem sweep_eq (s : State) :
    sweep s = { s with
      slots := s.slots.map (afterSweep s.env.now)
      idxEntry := (sweep s).idxEntry
      idxCount := (sweep s).idxCount } := by
  simp only [sweep, swept_eq_afterSweep]
  split <;> rfl

@[simp] theorem sweep_cfg (s : State) : (sweep s).cfg = s.cfg := by rw [sweep_eq]

@[simp] theorem sweep_cap (s : State) : (sweep s).cap = s.cap := by rw [sweep_eq]

@[simp] theorem sweep_rng (s : State) : (sweep s).rng = s.rng := by rw [sweep_eq]

/-- The sweep rebuilds the index where it activates a slot (40_oscillator_bank.md R136). -/
theorem sweep_eq_rebuild {s : State} (h : 0 < dueCount s) :
    sweep s = rebuild (s.withSlots (s.slots.map (afterSweep s.env.now))) := by
  simp only [sweep, swept_eq_afterSweep, h, if_true]

theorem BankSized.sweep {s : State} (h : BankSized s) : BankSized (sweep s) := by
  obtain ⟨-, hslots, hentries⟩ := (sweep_bankUpdate s).keepsConstants
  exact h.of_lengths hslots (hentries h.entries)

theorem IndexOk.sweep {s : State} (hb : BankSized s) (h : IndexOk s) : IndexOk (sweep s) := by
  rcases Nat.eq_zero_or_pos (dueCount s) with hnone | hsome
  · rwa [sweep_eq_self hnone]
  · rw [sweep_eq_rebuild hsome]
    exact rebuild_indexOk _ (by simpa using hb.bounded)

/-! ### UPDATE in polling mode -/

theorem pollDrain_index {s t : State} (ht : pollDrain s = some t) :
    t.idxEntry = s.idxEntry ∧ t.idxCount = s.idxCount :=
  ⟨(pollDrain_frame ht).field State.idxEntry, (pollDrain_frame ht).field State.idxCount⟩

/-- The drain leaves the sweep's index, so the swept state can be read off the drained one. -/
theorem sweep_eq_of_drained {s t : State} (ht : pollDrain (sweep s) = some t) :
    { s with slots := s.slots.map (afterSweep s.env.now), idxEntry := t.idxEntry, idxCount := t.idxCount } =
      sweep s := by
  obtain ⟨hentry, hcount⟩ := pollDrain_index ht
  rw [hentry, hcount]
  exact (sweep_eq s).symm

/-- What a drain after the sweep leaves alone: everything but the bank, the index, the generator and the transport. -/
theorem drained_eq {s t : State} (ht : pollDrain (sweep s) = some t) :
    t = { s with
      slots := t.slots, idxEntry := t.idxEntry, idxCount := t.idxCount, rng := t.rng, env := t.env } := by
  obtain ⟨hacc, hdiag, hpending⟩ := pollDrain_keepsCounters ht
  have hstate := (pollDrain_frame ht).state
  rw [hacc, hdiag, hpending, ← sweep_eq_of_drained ht] at hstate
  exact hstate

/-- The swept state's calls are the state's own: the sweep calls nothing (40_oscillator_bank.md R137). -/
theorem writesFrames_of_sweep {s t : State} {vs : List Sample} (h : WritesFrames (sweep s) t vs) :
    WritesFrames s t vs := by
  rwa [WritesFrames, sweep_env] at h

/-- Settles O37: both loops are `n` frames of the mixer (`AfterFrames`), and over a sound index, which the sweep
leaves sound, these are `n` frame steps of every slot. -/
theorem writtenFramesAdvanceSlots : Obligations.WrittenFramesAdvanceSlots := by
  intro s hb hi
  constructor
  · obtain ⟨t, ht, he⟩ := exec_tick_eq s
    obtain ⟨n, hframes⟩ := tickStep_afterFrames ht
    exact ⟨t, n, he, hframes.written, hframes.slots.trans (mixFrame_iterate_slots hb hi n),
      hframes.rng.trans (mixFrame_iterate_rng s n)⟩
  · intro hinit hpoll
    obtain ⟨t, ht, he⟩ := exec_update_poll_eq s hinit hpoll
    obtain ⟨n, -, hframes⟩ := pollDrain_afterFrames ht
    have hslots := mixFrame_iterate_slots hb.sweep (hi.sweep hb) n
    have hrng := mixFrame_iterate_rng (sweep s) n
    rw [sweep_slots, sweep_cfg] at hslots
    rw [sweep_rng] at hrng
    refine ⟨finish (u32 (dueCount s)) t, n, he, ?_, hframes.slots.trans hslots, hframes.rng.trans hrng⟩
    rw [finish_idxEntry, finish_idxCount, sweep_eq_of_drained ht]
    exact writesFrames_of_sweep hframes.written

/-- Settles O29: the sweep fixes the index and the bank the drain starts from, the drain writes at most cap / 4
frames of the mixer and keeps the rest (`drained_eq`). -/
theorem updateDrainsInPollingMode : Obligations.UpdateDrainsInPollingMode := by
  intro s hinit hpoll
  obtain ⟨t, ht, he⟩ := exec_update_poll_eq s hinit hpoll
  obtain ⟨n, hn, hframes⟩ := pollDrain_afterFrames ht
  obtain ⟨hentry, hcount⟩ := pollDrain_index ht
  have hworld : TransportOnly (sweep s).env t.env := (pollDrain_frame ht).world
  rw [sweep_env] at hworld
  rw [← dueCount_eq_dueSlots]
  refine ⟨finish (u32 (dueCount s)) t, framesFrom (sweep s) n, he, writesFrames_of_sweep hframes.written, ?_,
    fun hnone => ?_, fun hsome hlen => ?_, hworld, congrArg (finish (u32 (dueCount s))) (drained_eq ht)⟩
  · rw [sweep_cap] at hn
    rwa [framesFrom_length]
  · rw [sweep_eq_self hnone] at hentry hcount
    exact ⟨hentry, hcount⟩
  · rw [sweep_eq_rebuild hsome] at hentry hcount
    have hbound : (s.withSlots (s.slots.map (afterSweep s.env.now))).slots.length ≤ 255 := by simpa using hlen
    exact ⟨(rebuild_listsExactlyBusy _ hbound).of_index_eq rfl hentry hcount,
      (rebuild_keepsUnpublished _ hbound).of_index_eq hentry hcount⟩

end Sys2Proof.Machine

/-! ## A stopped slot's last frames -/

namespace Sys2Proof.Machine

/-- The slot sounds and has `n` samples left of a finite tone, or of its fade. -/
structure Slot.SoundsFor (n : Nat) (sl : Slot) : Prop where
  active : sl.active = true
  left : sl.dur.toNat = sl.played.toNat + n

/-- FadeOut leaves exactly the fade window, in both of its branches (40_oscillator_bank.md R125). -/
theorem fading_soundsFor {n : Nat} {sl : Slot} (hn : n < 2 ^ 32) (ha : sl.active = true) :
    (fading n sl).SoundsFor n := by
  have hwindow : (BitVec.ofNat 32 n).toNat = n := by rw [BitVec.toNat_ofNat, Nat.mod_eq_of_lt hn]
  unfold fading
  split
  · next hfits => exact ⟨ha, by rw [BitVec.toNat_add, hwindow, Nat.mod_eq_of_lt hfits]⟩
  · exact ⟨ha, hwindow.trans (Nat.zero_add n).symm⟩

theorem fading_env (n : Nat) (sl : Slot) : (fading n sl).env = sl.env := by
  unfold fading
  split <;> rfl

namespace Slot.SoundsFor

variable {p : Params} {sl : Slot} {n : Nat}

theorem frameStep_eq (h : sl.SoundsFor n) : frameStep p sl = advance p sl := if_pos h.active

theorem played_succ (h : sl.SoundsFor (n + 1)) : (sl.played + 1).toNat = sl.played.toNat + 1 := by
  have hdur := sl.dur.isLt
  have hleft := h.left
  have hsum : (sl.played + 1).toNat = (sl.played.toNat + 1) % 2 ^ 32 := BitVec.toNat_add _ _
  omega

theorem dur_ne_zero (h : sl.SoundsFor (n + 1)) : sl.dur ≠ 0 := fun hd => by
  have hleft := h.left
  rw [hd] at hleft
  simp at hleft

/-- A frame ends the tone exactly at its last sample (42_mixer.md R178). -/
theorem frameStep_active (h : sl.SoundsFor (n + 1)) : (frameStep p sl).active = true ↔ 0 < n := by
  have hlast : sl.played + 1 = sl.dur ↔ n = 0 := by
    rw [← BitVec.toNat_inj, h.played_succ, h.left]
    omega
  rw [h.frameStep_eq, advance_active, h.active]
  simp only [Bool.true_and, Bool.not_eq_true', Bool.and_eq_false_iff, bne_eq_false_iff_eq, beq_eq_false_iff_ne,
    ne_eq, h.dur_ne_zero, hlast, false_or]
  omega

theorem step (h : sl.SoundsFor (n + 1)) (hn : 0 < n) : (frameStep p sl).SoundsFor n where
  active := h.frameStep_active.2 hn
  left := by
    rw [h.frameStep_eq, advance_dur, advance_played, h.played_succ, h.left]
    omega

theorem iterate (h : sl.SoundsFor n) {k : Nat} (hk : k < n) : ((frameStep p)^[k] sl).SoundsFor (n - k) := by
  induction k with
  | zero => exact h
  | succ k ih =>
    obtain ⟨m, hm⟩ : ∃ m, n - k = m + 1 := ⟨n - k - 1, by omega⟩
    have hprev := ih (by omega)
    rw [hm] at hprev
    rw [Function.iterate_succ_apply', show n - (k + 1) = m by omega]
    exact hprev.step (by omega)

/-- Within the fade window the envelope is the fade line where the rise is above it (42_mixer.md R173). -/
theorem frameStep_env (h : sl.SoundsFor (n + 1)) (hn : n < p.fadeLen) :
    (frameStep p sl).env.toNat = min (min (sl.env.toNat + p.envStep) 256) (n * 256 / p.fadeLen) := by
  have hrem : sl.dur.toNat - (sl.played + 1).toNat = n := by
    rw [h.played_succ, h.left]
    omega
  rw [h.frameStep_eq, advance_env_toNat]
  simp only [nextEnvelope, hrem, ne_eq, h.dur_ne_zero, not_false_eq_true, hn, and_self, if_true]

/-- The last frame of a tone leaves its envelope at 0. -/
theorem frameStep_env_last (h : sl.SoundsFor 1) (hp : 0 < p.fadeLen) : (frameStep p sl).env = 0 := by
  apply BitVec.eq_of_toNat_eq
  simp [h.frameStep_env hp]

/-- A fade from the full envelope goes down the fade line: no rise lifts an envelope over it. -/
theorem iterate_env (h : sl.SoundsFor p.fadeLen) (hfull : sl.env = 256) {k : Nat} (hk : k < p.fadeLen) :
    ((frameStep p)^[k] sl).env.toNat = (p.fadeLen - k) * 256 / p.fadeLen := by
  induction k with
  | zero =>
    rw [Nat.sub_zero, Nat.mul_div_cancel_left _ hk]
    exact congrArg BitVec.toNat hfull
  | succ k ih =>
    obtain ⟨m, hm⟩ : ∃ m, p.fadeLen - k = m + 1 := ⟨p.fadeLen - k - 1, by omega⟩
    have henv := ih (by omega)
    have hprev := h.iterate (p := p) (k := k) (by omega)
    rw [hm] at hprev henv
    have hfall : m * 256 / p.fadeLen ≤ (m + 1) * 256 / p.fadeLen := Nat.div_le_div_right (by omega)
    have hrange : (m + 1) * 256 / p.fadeLen ≤ 256 := Nat.div_le_of_le_mul (by omega)
    rw [Function.iterate_succ_apply', hprev.frameStep_env (by omega), henv, show p.fadeLen - (k + 1) = m by omega]
    omega

end Slot.SoundsFor

/-- Settles O27: FadeOut leaves FADE_LEN samples (`fading_soundsFor`), each frame takes one
(`Slot.SoundsFor.iterate`), and the envelope is the fade line of the samples left. -/
theorem stopFadeLastsSixtyFourFrames : Obligations.StopFadeLastsSixtyFourFrames := by
  refine ⟨rfl, fun p sl hpos hlt hact => ?_⟩
  have hfade := fading_soundsFor hlt hact
  have hlast := hfade.iterate (p := p) (k := p.fadeLen - 1) (by omega)
  rw [show p.fadeLen - (p.fadeLen - 1) = 1 by omega] at hlast
  have hend := Function.iterate_succ_apply' (frameStep p) (p.fadeLen - 1) (fading p.fadeLen sl)
  rw [Nat.succ_eq_add_one, Nat.sub_add_cancel hpos] at hend
  refine ⟨fun k hk => (hfade.iterate hk).active, ?_, ?_, fun hfull k hk => ?_⟩
  · rw [hend]
    exact Bool.eq_false_iff.2 (mt hlast.frameStep_active.1 (Nat.lt_irrefl 0))
  · rw [hend]
    exact hlast.frameStep_env_last hpos
  · exact hfade.iterate_env ((fading_env _ sl).trans hfull) hk

end Sys2Proof.Machine

/-! ## The operands of an arm command, and the elapsed test -/

namespace Sys2Proof.Machine

/-- Settles O22: the floor's two bounds, and at 1000 Hz or more one millisecond is a sample. -/
theorem finiteDurationStaysFinite : Obligations.FiniteDurationStaysFinite := by
  intro ms sr hsr
  have hfloor : durationSamples ms sr = ms * sr / 1000 := rfl
  have hzero : ms * sr < 1000 ↔ ms = 0 := by
    refine ⟨fun hlt => ?_, fun h => by simp [h]⟩
    by_contra hne
    have hle : 1 * 1000 ≤ ms * sr := Nat.mul_le_mul (Nat.pos_of_ne_zero hne) hsr
    omega
  refine ⟨by omega, by omega, ?_⟩
  rw [← hzero]
  omega

/-- Settles O31: the common start cancels, and the difference of two delays below 2^31 has its own sign. -/
theorem elapsedExactForLegalDelays : Obligations.ElapsedExactForLegalDelays := by
  intro t0 d e hd he
  have hcancel : t0 + BitVec.ofNat 32 e - (t0 + BitVec.ofNat 32 d) = BitVec.ofNat 32 e - BitVec.ofNat 32 d :=
    add_sub_add_left_eq_sub _ _ _
  rw [elapsed_iff, hcancel, BitVec.toInt_eq_toNat_cond, BitVec.toNat_sub, BitVec.toNat_ofNat, BitVec.toNat_ofNat]
  omega

/-- Legal operands pass the checks of PLAY and PLAY_CH, and what passes arms a slot in the statements' words. -/
theorem armOperands_of_legal {isCh : Bool} {s : State}
    (h : OperandsLegal s (effectiveFreq s.cfg isCh s.arg0)) :
    ∃ o, armOperands isCh s = some o ∧
      ∀ sl, armed s.env.now o sl = toneArmed s (effectiveFreq s.cfg isCh s.arg0) sl :=
  ⟨_, armOperands_eq_some isCh s h, fun sl => armed_eq_toneArmed s _ _ sl rfl rfl rfl rfl⟩

/-- Settles O17: `armOperands` answers none, the only way into BAD_ARG of both commands. -/
theorem illegalOperandsRejected : Obligations.IllegalOperandsRejected := by
  intro s n hinit
  refine ⟨fun hbad => ?_, fun hn hbad => ?_⟩
  · rw [exec_play_badArg s hinit (armOperands_eq_none false s hbad)]
    rfl
  · rw [exec_playCh_badArg s hinit n ((slotLegal_iff s n).2 hn) (armOperands_eq_none true s hbad)]
    rfl

/-- Settles O19: legal operands, but `FirstFree()` is none (40_oscillator_bank.md R120). -/
theorem playWithoutIdleSlotChangesNothing : Obligations.PlayWithoutIdleSlotChangesNothing := by
  refine ⟨rfl, fun s hinit hlegal hbusy => ?_⟩
  obtain ⟨o, ho, -⟩ := armOperands_of_legal (isCh := false) hlegal
  have hfull : firstFree s.slots = none :=
    firstFree_eq_none.2 fun sl hsl => (isIdle_eq_false_iff sl).2 (hbusy sl hsl)
  rw [exec_play_noSlot s hinit ho hfull]
  rfl

end Sys2Proof.Machine

/-! ## Commands that change one slot and republish the index -/

namespace Sys2Proof.Machine

/-- A command that writes the bank `l`, rebuilds the index and answers `r` says what the statements ask of it: the
index lists exactly the busy slots, keeps the entries past its count, and the rest is as it was. -/
theorem exec_rebuilt {i : Instr} {s : State} {l : List Slot} {r : Word} (hlen : l.length ≤ 255)
    (h : exec i s = .next (finish r (rebuild (s.withSlots l)))) :
    ∃ t, exec i s = .next t ∧ t.slots = l ∧ ListsExactlyBusy t ∧ KeepsUnpublished s t ∧
      t = { s with
        slots := t.slots, idxEntry := t.idxEntry, idxCount := t.idxCount, err := 0, result := r } :=
  ⟨_, h, rfl, (rebuild_listsExactlyBusy (s.withSlots l) hlen).of_index_eq rfl rfl rfl,
    (rebuild_keepsUnpublished (s.withSlots l) hlen).of_index_eq rfl rfl, rfl⟩

/-- Arming a slot sets it, by its operands, and rebuilds the index (40_oscillator_bank.md R116). -/
theorem armSlot_eq_rebuild {s : State} {i f : Nat} {o : ArmOperands} {sl : Slot} (hsl : s.slots[i]? = some sl)
    (ho : ∀ x, armed s.env.now o x = toneArmed s f x) :
    armSlot i o s = rebuild (s.withSlots (s.slots.set i (toneArmed s f sl))) := by
  rw [armSlot, modify_eq_set _ hsl, ho]

theorem firstFree_of_first_idle {slots : List Slot} {i : Nat} {sl : Slot} (hsl : slots[i]? = some sl)
    (ha : sl.active = false) (hs : sl.scheduled = false)
    (hbusy : ∀ j : Nat, j < i → ∀ x : Slot, slots[j]? = some x → x.active = true ∨ x.scheduled = true) :
    firstFree slots = some i := by
  obtain ⟨hi, rfl⟩ := List.getElem?_eq_some_iff.1 hsl
  exact firstFree_eq_some.2 ⟨hi, (isIdle_iff _).2 ⟨ha, hs⟩, fun j hj =>
    (isIdle_eq_false_iff _).2 (hbusy j hj _ (List.getElem?_eq_getElem (hj.trans hi)))⟩

/-- Settles O18: the first idle slot is `FirstFree()`'s, and arming it is a rebuild over the set bank. -/
theorem playArmsFirstIdleSlot : Obligations.PlayArmsFirstIdleSlot := by
  intro s i sl hinit hlen hlegal hsl ha hs hbusy
  obtain ⟨o, ho, harmed⟩ := armOperands_of_legal (isCh := false) hlegal
  have he := exec_play_arms s hinit ho (firstFree_of_first_idle hsl ha hs hbusy)
  rw [armSlot_eq_rebuild hsl harmed] at he
  exact exec_rebuilt (List.length_set.trans_le hlen) he

/-- Settles O20: the slot is in the bank, and arming it is a rebuild over the set bank, whatever the slot was. -/
theorem playChArmsNamedSlot : Obligations.PlayChArmsNamedSlot := by
  intro s n sl hinit hlen hlegal hsl
  obtain ⟨o, ho, harmed⟩ := armOperands_of_legal (isCh := true) hlegal
  have he := exec_playCh_arms s hinit n (slotLegal_of_getElem? hsl) ho
  rw [armSlot_eq_rebuild hsl harmed] at he
  exact exec_rebuilt (List.length_set.trans_le hlen) he

/-- Settles O24: an inactive slot takes STOP's cancel branch, which rebuilds over the set bank. -/
theorem stopCancelsInactiveSlot : Obligations.StopCancelsInactiveSlot := by
  intro s n sl hinit hlen hsl ha
  exact exec_rebuilt (List.length_set.trans_le hlen) (exec_stop_inactive s hinit n hsl ha)

/-- Settles O26: a scheduled slot is released with a rebuild, any other is left with the status alone written. -/
theorem cancelReleasesScheduledSlot : Obligations.CancelReleasesScheduledSlot := by
  intro s n sl hinit hlen hsl
  refine ⟨fun hs => exec_rebuilt (List.length_set.trans_le hlen) (exec_cancel_scheduled s hinit n hsl hs),
    fun hs => ?_⟩
  rw [exec_cancel_other s hinit n hsl hs]
  rfl

/-! ## Commands that fade slots and leave the index -/

/-- Settles O23: an active slot takes STOP's fade branch, which sets the bank alone. -/
theorem stopFadesActiveSlot : Obligations.StopFadesActiveSlot := by
  intro s n sl hinit hsl ha
  rw [exec_stop_active s hinit n hsl ha, fadeOut_eq_fading]
  rfl

/-- Settles O25: the command maps `fadeIfActive` over the bank and writes its status. -/
theorem stopAllFadesActiveSlots : Obligations.StopAllFadesActiveSlots := by
  intro s hinit
  refine ⟨_, exec_stopAll_ok s hinit, List.length_map _, fun i sl hsl => ?_, rfl⟩
  rw [finish_slots, withSlots_slots, List.getElem?_map, hsl, Option.map_some, fadeIfActive, fadeOut_eq_fading]

/-! ## UPDATE in tick mode -/

/-- Settles O28: the sweep is the whole of the command, and it rebuilds the index only where a slot was due. -/
theorem updateSweepsDueSlots : Obligations.UpdateSweepsDueSlots := by
  intro s hinit hpoll hlen
  have he := exec_update_tickMode s hinit hpoll
  rw [← dueCount_eq_dueSlots]
  refine ⟨_, he, ?_, fun i sl hsl => ?_, fun hnone => ?_, fun hsome => ?_, ?_⟩
  · rw [finish_slots, sweep_slots, List.length_map]
  · rw [finish_slots, sweep_slots, List.getElem?_map, hsl, Option.map_some]
  · rw [sweep_eq_self hnone]
    exact ⟨rfl, rfl⟩
  · rw [sweep_eq_rebuild hsome] at he ⊢
    have hbound : (s.slots.map (afterSweep s.env.now)).length ≤ 255 := (List.length_map _).trans_le hlen
    obtain ⟨t, ht, -, hlists, hkeeps, -⟩ := exec_rebuilt hbound he
    cases he.symm.trans ht
    exact ⟨hlists, hkeeps⟩
  · rw [finish_slots, sweep_slots]
    exact congrArg (finish (u32 (dueCount s))) (sweep_eq s)

end Sys2Proof.Machine

/-! ## The increment's rounding -/

namespace Sys2Proof.Machine

/-- Rounding half up leaves a product within half a divisor of the dividend (41_synthesizer.md R152). -/
theorem abs_roundHalfUp_mul_sub_le (a : ℕ) {b : ℕ} (hb : 0 < b) :
    |(roundHalfUp a b : ℚ) * b - a| ≤ b / 2 := by
  have hdiv : 2 * b * roundHalfUp a b + (2 * a + b) % (2 * b) = 2 * a + b := Nat.div_add_mod _ _
  have hmod : (2 * a + b) % (2 * b) < 2 * b := Nat.mod_lt _ (by omega)
  have hlow : 2 * b * roundHalfUp a b ≤ 2 * a + b := by omega
  have hhigh : 2 * a ≤ 2 * b * roundHalfUp a b + b := by omega
  qify at hlow hhigh
  rw [abs_le]
  constructor <;> linarith

/-- Settles O21: the two frequencies differ by the rounding's error over 2^32, and it is at most sr / 2. -/
theorem incrementWithinHalfUnit : Obligations.IncrementWithinHalfUnit := by
  intro f sr hsr
  have hround : |(computeInc f sr : ℚ) * sr - (f * 65536 : ℕ)| ≤ sr / 2 := abs_roundHalfUp_mul_sub_le _ hsr
  calc |(computeInc f sr : ℚ) * sr / 2 ^ 32 - f / 65536|
      = |((computeInc f sr : ℚ) * sr - (f * 65536 : ℕ)) / 2 ^ 32| := by
        congr 1
        push_cast
        ring
    _ = |(computeInc f sr : ℚ) * sr - (f * 65536 : ℕ)| / 2 ^ 32 := by
        rw [abs_div, abs_of_pos (by positivity : (0 : ℚ) < 2 ^ 32)]
    _ ≤ sr / 2 / 2 ^ 32 := by gcongr
    _ = sr / 2 ^ 33 := by ring

end Sys2Proof.Machine

/-! ## The waveform by quadrants -/

namespace Sys2Proof.Machine

theorem phaseOffset_ofNat (p : Nat) : ((BitVec.ofNat 8 p).extractLsb' 0 6).toNat = p % 64 := by
  rw [BitVec.extractLsb'_toNat, BitVec.toNat_ofNat]
  omega

theorem phaseQuadrant_ofNat (p : Nat) : ((BitVec.ofNat 8 p).extractLsb' 6 2).toNat = p / 64 % 4 := by
  rw [BitVec.extractLsb'_toNat, BitVec.toNat_ofNat, Nat.shiftRight_eq_div_pow]
  omega

section Quadrants

variable (table : List Int) {k : Nat}

theorem wave_firstQuadrant (hk : k < 64) : wave table (BitVec.ofNat 8 k) = quarter table k := by
  have hq : k / 64 % 4 = 0 := by omega
  simp only [wave, phaseOffset_ofNat, phaseQuadrant_ofNat, hq, Nat.mod_eq_of_lt hk]

theorem wave_secondQuadrant (hk : k < 64) : wave table (BitVec.ofNat 8 (64 + k)) = quarter table (63 - k) := by
  have hq : (64 + k) / 64 % 4 = 1 := by omega
  have ho : (64 + k) % 64 = k := by omega
  simp only [wave, phaseOffset_ofNat, phaseQuadrant_ofNat, hq, ho]

theorem wave_thirdQuadrant (hk : k < 64) : wave table (BitVec.ofNat 8 (128 + k)) = -quarter table k := by
  have hq : (128 + k) / 64 % 4 = 2 := by omega
  have ho : (128 + k) % 64 = k := by omega
  simp only [wave, phaseOffset_ofNat, phaseQuadrant_ofNat, hq, ho]

theorem wave_fourthQuadrant (hk : k < 64) : wave table (BitVec.ofNat 8 (192 + k)) = -quarter table (63 - k) := by
  have hq : (192 + k) / 64 % 4 = 3 := by omega
  have ho : (192 + k) % 64 = k := by omega
  simp only [wave, phaseOffset_ofNat, phaseQuadrant_ofNat, hq, ho]

/-- Half a turn on, the quadrant is the one of the opposite sign (41_synthesizer.md R158). -/
theorem wave_add_halfTurn {p : Nat} (hp : p < 128) :
    wave table (BitVec.ofNat 8 (p + 128)) = -wave table (BitVec.ofNat 8 p) := by
  rcases Nat.lt_or_ge p 64 with hlow | hhigh
  · rw [Nat.add_comm, wave_thirdQuadrant table hlow, wave_firstQuadrant table hlow]
  · obtain ⟨k, rfl⟩ := Nat.exists_eq_add_of_le hhigh
    have hk : k < 64 := by omega
    have hturn : 64 + k + 128 = 192 + k := by omega
    rw [hturn, wave_fourthQuadrant table hk, wave_secondQuadrant table hk]

/-- The second quadrant is the first one read backwards (41_synthesizer.md R158). -/
theorem wave_mirror (hk : k < 64) : wave table (BitVec.ofNat 8 (127 - k)) = wave table (BitVec.ofNat 8 k) := by
  have hmirror : 127 - k = 64 + (63 - k) := by omega
  have hback : 63 - (63 - k) = k := by omega
  rw [hmirror, wave_secondQuadrant table (by omega), hback, wave_firstQuadrant table hk]

theorem wave_quadrants {a b : Int} (hk : k < 64) (ha : table[k]? = some a) (hb : table[63 - k]? = some b) :
    wave table (BitVec.ofNat 8 k) = a ∧ wave table (BitVec.ofNat 8 (64 + k)) = b ∧
    wave table (BitVec.ofNat 8 (128 + k)) = -a ∧ wave table (BitVec.ofNat 8 (192 + k)) = -b := by
  have hqa : quarter table k = a := by rw [quarter, List.getD_eq_getElem?_getD, ha, Option.getD_some]
  have hqb : quarter table (63 - k) = b := by rw [quarter, List.getD_eq_getElem?_getD, hb, Option.getD_some]
  rw [← hqa, ← hqb]
  exact ⟨wave_firstQuadrant table hk, wave_secondQuadrant table hk, wave_thirdQuadrant table hk,
    wave_fourthQuadrant table hk⟩

end Quadrants

/-- Settles O46: the four quadrants give the symmetries, and at offset 0 the default table's four points. -/
theorem waveformSymmetries : Obligations.WaveformSymmetries :=
  ⟨fun table _ _ _ hk ha hb => wave_quadrants table hk ha hb, fun table _ hp => wave_add_halfTurn table hp,
    fun table _ hp => wave_mirror table hp,
    wave_quadrants defaultQtable (k := 0) (a := 0) (b := 32757) (by decide) rfl rfl⟩

end Sys2Proof.Machine

/-! ## The value of a frame: equal voices, silence, and the dither's draws -/

namespace Sys2Proof.Machine

theorem contribution_congr {p : Params} {a b : Slot} (hamp : a.amp = b.amp) (henv : a.env = b.env)
    (hphase : phaseIndex a.phase = phaseIndex b.phase) : contribution p a = contribution p b := by
  rw [contribution, contribution, hamp, henv, hphase]

/-- The average of equal contributions is one of them: their sum is a multiple of their number (42_mixer.md R187). -/
theorem average_of_forall_eq {l : List Int} {c : Int} (hl : l ≠ []) (h : ∀ v ∈ l, v = c) :
    average l.sum l.length = c := by
  have hn : l.length ≠ 0 := mt List.length_eq_zero_iff.1 hl
  rw [List.sum_eq_card_nsmul l c h, nsmul_eq_mul, average, if_neg hn]
  exact Int.mul_tdiv_cancel_left c (Int.natCast_ne_zero.2 hn)

/-- Settles O40: every contribution is the one voice's, so the average is it too, and the rest is the output formula. -/
theorem equalVoicesMixToOne : Obligations.EqualVoicesMixToOne := by
  intro s one _ hindex hone hequal
  obtain ⟨hsum, hn⟩ := mixSlots_total hindex
  have haverage : average (mixSlots s).sum (mixSlots s).n = contribution s.cfg one := by
    rw [hsum, hn, ← List.length_map (f := contribution s.cfg)]
    refine average_of_forall_eq (List.ne_nil_of_mem (List.mem_map_of_mem hone)) fun v hv => ?_
    obtain ⟨sl, hsl, rfl⟩ := List.mem_map.1 hv
    obtain ⟨hamp, henv, hphase⟩ := hequal sl hsl
    exact contribution_congr hamp henv hphase
  rw [frameValue, outputSample, haverage]
  rfl

/-- No entry lists a contributor. -/
def ListsNoContributor (es : List SlotNo) (slots : List Slot) : Prop :=
  ∀ e ∈ es, ∀ sl, slots[e.toNat]? = some sl → ¬contributes sl = true

theorem contributes_of_contributes_advance {p : Params} {sl : Slot} (h : contributes (advance p sl) = true) :
    contributes sl = true := by
  simp only [contributes, Bool.and_eq_true] at h ⊢
  exact ⟨active_of_advance_active h.1, h.2⟩

/-- A pass makes no slot a contributor, so an entry listed twice stays silent. -/
theorem ListsNoContributor.mixEntry {es : List SlotNo} {m : Mix} (h : ListsNoContributor es m.slots) (p : Params)
    (e : SlotNo) : ListsNoContributor es (mixEntry p m e).slots := by
  intro x hx b hb hc
  obtain ⟨hi, -⟩ := List.getElem?_eq_some_iff.1 hb
  rw [mixEntry_length] at hi
  have ha := List.getElem?_eq_getElem hi
  have hback := mixLoop_rel (R := fun a b => contributes b = true → contributes a = true) (fun _ => id)
    (fun _ _ hr _ hadv => hr (contributes_of_contributes_advance hadv)) [e] m x.toNat _ b ha hb
  exact h x hx _ ha (hback hc)

theorem mixEntry_n_of_not_contributes {p : Params} {m : Mix} {e : SlotNo}
    (h : ∀ sl, m.slots[e.toNat]? = some sl → ¬contributes sl = true) : (mixEntry p m e).n = m.n := by
  cases hsl : m.slots[e.toNat]? with
  | none => simp only [mixEntry, hsl]
  | some sl => simp only [mixEntry_eq hsl, h sl hsl, Bool.false_eq_true, if_false, Nat.add_zero]

/-- The loop counts nothing where no entry lists a contributor. -/
theorem mixLoop_n_of_listsNoContributor (p : Params) (es : List SlotNo) (m : Mix)
    (h : ListsNoContributor es m.slots) : (es.foldl (mixEntry p) m).n = m.n := by
  induction es generalizing m with
  | nil => rfl
  | cons e es ih =>
    have hrest : ListsNoContributor es m.slots := fun x hx => h x (List.mem_cons_of_mem e hx)
    rw [List.foldl_cons, ih _ (hrest.mixEntry p e), mixEntry_n_of_not_contributes (h e List.mem_cons_self)]

/-- Without a contributor the output is the clamped dither, whatever the sum (42_mixer.md R179, R186). -/
theorem outputSample_without_contributor (p : Params) (sum : Int) (rng : Word) :
    outputSample p sum 0 rng = clamp (ditherValue p.ditherMask rng) (-32768) 32767 := by
  simp [outputSample, average, gain, asr]

/-- Settles O41: no published entry lists a contributor, so the loop counts none and the output is the dither. -/
theorem silentMixIsDitherAlone : Obligations.SilentMixIsDitherAlone := by
  intro s hsilent
  have hnone : ListsNoContributor (publishedEntries s) s.slots := fun e he sl hsl hc => by
    simp only [contributes, Bool.and_eq_true, bne_iff_ne] at hc
    exact hc.2 (hsilent e he sl hsl hc.1)
  have hn : (mixSlots s).n = 0 := mixLoop_n_of_listsNoContributor s.cfg _ _ hnone
  rw [frameValue, hn, outputSample_without_contributor]
  rfl

/-- Settles O45: each of the generator's shifts keeps a nonzero word nonzero (`xorshift_ne_zero`), and `Dither()`
leaves the second draw's state. -/
theorem xorshiftNeverZero : Obligations.XorshiftNeverZero :=
  ⟨fun _ => rfl, fun _ => xorshift_ne_zero, mixFrame_rng⟩

end Sys2Proof.Machine

/-! ## The envelope from frame to frame -/

namespace Sys2Proof.Machine

theorem nextEnvelope_le_rise (p : Params) (sl : Slot) : nextEnvelope p sl ≤ sl.env.toNat + p.envStep := by
  simp only [nextEnvelope]
  split <;> omega

/-- An indefinite tone has no fade line (42_mixer.md R172). -/
theorem nextEnvelope_of_indefinite (p : Params) {sl : Slot} (h : sl.dur = 0) :
    nextEnvelope p sl = min (sl.env.toNat + p.envStep) 256 :=
  if_neg fun hfade => hfade.1 h

theorem frameStep_env_le_rise (p : Params) (sl : Slot) :
    (frameStep p sl).env.toNat ≤ sl.env.toNat + p.envStep := by
  unfold frameStep
  split
  · rw [advance_env_toNat]
    exact nextEnvelope_le_rise p sl
  · exact Nat.le_add_right _ _

/-- A sounding finite tone has a positive number of samples left (10_state.md R27). -/
theorem Slot.ToneUnfinished.soundsFor {sl : Slot} (h : sl.ToneUnfinished) (ha : sl.active = true)
    (hd : sl.dur ≠ 0) : ∃ n, sl.SoundsFor (n + 1) := by
  obtain ⟨n, hn⟩ := Nat.exists_eq_add_of_lt (h ha hd)
  exact ⟨n, ha, hn⟩

/-- The fade line holds in every frame of a finite tone: before the fade window it is at or above ENV_MAX
(42_mixer.md R172, R173). -/
theorem Slot.SoundsFor.frameStep_env_eq_min_fadeLine {p : Params} {sl : Slot} {n : Nat}
    (h : sl.SoundsFor (n + 1)) (hp : 0 < p.fadeLen) :
    (frameStep p sl).env.toNat = min (min (sl.env.toNat + p.envStep) 256) (n * 256 / p.fadeLen) := by
  rcases Nat.lt_or_ge n p.fadeLen with hwindow | hbefore
  · exact h.frameStep_env hwindow
  · have hrem : sl.dur.toNat - (sl.played + 1).toNat = n := by
      rw [h.played_succ, h.left]
      omega
    have hline : 256 ≤ n * 256 / p.fadeLen := (Nat.le_div_iff_mul_le hp).2 (by omega)
    rw [h.frameStep_eq, advance_env_toNat]
    simp only [nextEnvelope, hrem, Nat.not_lt.2 hbefore, and_false, if_false]
    exact (min_eq_left ((min_le_right _ _).trans hline)).symm

/-- With the default window one sample of the fade line is worth 4 (42_mixer.md R188). -/
theorem frameStep_env_fall_le {p : Params} {sl : Slot} (hlen : p.fadeLen = 64) (h : sl.Ok p) :
    sl.env.toNat ≤ (frameStep p sl).env.toNat + 4 := by
  have hrange : sl.env.toNat ≤ 256 := h.envelope
  by_cases ha : sl.active = true
  · by_cases hd : sl.dur = 0
    · rw [frameStep, if_pos ha, advance_env_toNat, nextEnvelope_of_indefinite p hd]
      omega
    · obtain ⟨n, hn⟩ := h.tone.soundsFor ha hd
      have hfade : sl.env.toNat * p.fadeLen ≤ 256 * (sl.dur.toNat - sl.played.toNat) := h.fade ha hd
      rw [hn.left, hlen] at hfade
      rw [hn.frameStep_env_eq_min_fadeLine (by omega), hlen]
      omega
  · rw [frameStep_of_inactive p ha]
    omega

/-- Settles O44: over a sound index a slot takes one frame step (`mixerAdvancesEachActiveSlotOnce`). -/
theorem envelopeStepBounded : Obligations.EnvelopeStepBounded := by
  intro s i a b hbank hindex hslots ha hb
  rw [mixerAdvancesEachActiveSlotOnce s hbank hindex, List.getElem?_map, ha, Option.map_some, Option.some_inj] at hb
  subst hb
  exact ⟨frameStep_env_le_rise s.cfg a, fun hlen => frameStep_env_fall_le hlen (hslots a (List.mem_of_getElem? ha))⟩

end Sys2Proof.Machine

/-! ## Tones frame by frame -/

namespace Sys2Proof.Machine

/-- One step more of a wrapping counter (42_mixer.md R174, R175). -/
theorem add_ofNat_succ_mul (x d : Word) (k : Nat) :
    x + BitVec.ofNat 32 (k + 1) * d = x + BitVec.ofNat 32 k * d + d := by
  rw [BitVec.ofNat_add, add_mul, BitVec.one_mul, add_assoc]

theorem add_ofNat_succ (x : Word) (k : Nat) : x + BitVec.ofNat 32 (k + 1) = x + BitVec.ofNat 32 k + 1 := by
  simpa using add_ofNat_succ_mul x 1 k

/-- A frame of an indefinite tone raises, advances and counts, and never ends it (42_mixer.md R172 to R178). -/
theorem frameStep_of_indefinite (p : Params) {sl : Slot} (ha : sl.active = true) (hd : sl.dur = 0) :
    frameStep p sl =
      { sl with
        env := BitVec.ofNat 9 (min (sl.env.toNat + p.envStep) 256)
        phase := sl.phase + sl.inc
        played := sl.played + 1 } := by
  rw [frameStep, if_pos ha, advance, nextEnvelope_of_indefinite p hd]
  simp [hd]

/-- Settles O43, by induction on the frames: a rise from a clamped rise is the clamped longer rise. -/
theorem indefiniteToneKeepsSounding : Obligations.IndefiniteToneKeepsSounding := by
  intro p sl n ha hd henv
  induction n with
  | zero => simp [henv]
  | succ n ih =>
    have hclamped : min (sl.env.toNat + n * p.envStep) 256 % 2 ^ 9 = min (sl.env.toNat + n * p.envStep) 256 :=
      Nat.mod_eq_of_lt (by omega)
    have hrise : min (min (sl.env.toNat + n * p.envStep) 256 + p.envStep) 256 =
        min (sl.env.toNat + (n + 1) * p.envStep) 256 := by
      rw [Nat.succ_mul]
      omega
    rw [Function.iterate_succ_apply', ih, frameStep_of_indefinite]
    · simp only [BitVec.toNat_ofNat, hclamped, hrise, add_ofNat_succ_mul, add_ofNat_succ]
    · exact ha
    · exact hd

namespace Slot.SoundsFor

variable {p : Params} {sl : Slot} {n k : Nat}

theorem frameStep_iterate_succ (h : sl.SoundsFor n) (hk : k < n) :
    (frameStep p)^[k + 1] sl = advance p ((frameStep p)^[k] sl) := by
  rw [Function.iterate_succ_apply', (h.iterate hk).frameStep_eq]

theorem iterate_inc (h : sl.SoundsFor n) (hk : k ≤ n) : ((frameStep p)^[k] sl).inc = sl.inc := by
  induction k with
  | zero => rfl
  | succ k ih => rw [h.frameStep_iterate_succ hk, advance_inc, ih (by omega)]

theorem iterate_phase (h : sl.SoundsFor n) (hk : k ≤ n) :
    ((frameStep p)^[k] sl).phase = sl.phase + BitVec.ofNat 32 k * sl.inc := by
  induction k with
  | zero => simp
  | succ k ih =>
    rw [h.frameStep_iterate_succ hk, advance_phase, ih (by omega), h.iterate_inc (by omega), add_ofNat_succ_mul]

theorem iterate_played (h : sl.SoundsFor n) (hk : k ≤ n) :
    ((frameStep p)^[k] sl).played = sl.played + BitVec.ofNat 32 k := by
  induction k with
  | zero => simp
  | succ k ih => rw [h.frameStep_iterate_succ hk, advance_played, ih (by omega), add_ofNat_succ]

/-- From envelope 0 the rise and the fade line never disturb each other: the line only falls (42_mixer.md R189). -/
theorem iterate_env_of_zero (h : sl.SoundsFor n) (hp : 0 < p.fadeLen) (hzero : sl.env = 0) (hk : k ≤ n) :
    ((frameStep p)^[k] sl).env.toNat = min (min (k * p.envStep) 256) ((n - k) * 256 / p.fadeLen) := by
  induction k with
  | zero => simp [hzero]
  | succ k ih =>
    obtain ⟨m, hm⟩ : ∃ m, n - k = m + 1 := ⟨n - k - 1, by omega⟩
    have henv := ih (by omega)
    have hprev := h.iterate (p := p) (k := k) (by omega)
    rw [hm] at hprev henv
    have hfall : m * 256 / p.fadeLen ≤ (m + 1) * 256 / p.fadeLen := Nat.div_le_div_right (by omega)
    rw [Function.iterate_succ_apply', hprev.frameStep_env_eq_min_fadeLine hp, henv, Nat.succ_mul k,
      show n - (k + 1) = m by omega]
    omega

/-- After its last sample the slot is idle (42_mixer.md R178). -/
theorem iterate_last_active (h : sl.SoundsFor n) (hn : 0 < n) : ((frameStep p)^[n] sl).active = false := by
  obtain ⟨m, rfl⟩ : ∃ m, n = m + 1 := ⟨n - 1, by omega⟩
  have hlast := h.iterate (p := p) (Nat.lt_succ_self m)
  rw [Nat.add_sub_cancel_left] at hlast
  rw [Function.iterate_succ_apply']
  exact Bool.eq_false_iff.2 (mt hlast.frameStep_active.1 (Nat.lt_irrefl 0))

end Slot.SoundsFor

/-- Settles O42: a slot armed at once sounds for its duration, so the closed forms of `Slot.SoundsFor` apply. -/
theorem toneLastsItsDuration : Obligations.ToneLastsItsDuration := by
  intro p sl hp ha hplayed hzero hd
  have hsounds : sl.SoundsFor sl.dur.toNat := ⟨ha, by simp [hplayed]⟩
  have hpos : 0 < sl.dur.toNat := Nat.pos_of_ne_zero fun h => hd (BitVec.eq_of_toNat_eq h)
  refine ⟨fun t ht => ⟨(hsounds.iterate ht).active, hsounds.iterate_env_of_zero hp hzero ht.le, ?_,
    hsounds.iterate_phase ht.le⟩, hsounds.iterate_last_active hpos, BitVec.eq_of_toNat_eq ?_⟩
  · rw [hsounds.iterate_played ht.le, hplayed, BitVec.ofNat_eq_ofNat, BitVec.zero_add, BitVec.toNat_ofNat,
      Nat.mod_eq_of_lt (ht.trans sl.dur.isLt)]
  · simp [hsounds.iterate_env_of_zero hp hzero le_rfl]

end Sys2Proof.Machine

/-! ## The pacing controller: pulses, tick steps and drains counted frame by frame -/

namespace Sys2Proof.Machine

/-! ### The pulse and the pending tick -/

/-- Settles O7, which is the step's own first case. -/
theorem pendingTickRunsFirst : Obligations.PendingTickRunsFirst := step_pending

theorem acceptTick_of_accepting {s : State} (h : s.initOk = true ∧ s.poll = false) :
    acceptTick s = { s with tickPending := true } := by
  simp only [acceptTick, h, Bool.not_false, Bool.and_self, if_true]

theorem acceptTick_of_not_accepting {s : State} (h : ¬(s.initOk = true ∧ s.poll = false)) : acceptTick s = s :=
  if_neg (by simpa using h)

/-- Settles O8: the pulse is the next action, and `acceptTick` asks for an initialized engine that does not poll. -/
theorem tickPulseAcceptance : Obligations.TickPulseAcceptance := by
  intro s rest hp hpr
  rw [step_action s .tickPulse rest hp hpr]
  exact ⟨fun h => congrArg Host.Outcome.next (acceptTick_of_accepting (s := s.withProgram rest) h),
    fun h => congrArg Host.Outcome.next (acceptTick_of_not_accepting (s := s.withProgram rest) h)⟩

/-! ### The accumulator loses nothing -/

/-- A baseline and the remainder it leaves are the accumulated thousandths of a frame (44_pacing.md R204). -/
theorem baseline_add_accRemainder (acc inc : Word) :
    1000 * baseline acc inc + (accRemainder acc inc).toNat = acc.toNat + inc.toNat := by
  have hlt : (acc.toNat + inc.toNat) % Config.accScale < 1000 := Nat.mod_lt _ (by decide)
  rw [accRemainder, u32_toNat _ (by omega)]
  exact Nat.div_add_mod _ _

/-- Settles O36, by induction on the ticks from the first one on: its baseline and its remainder lose nothing. -/
theorem baselineRateIsDriftFree : Obligations.BaselineRateIsDriftFree := by
  intro a0 inc T ha
  induction T generalizing a0 with
  | zero => simpa using (Nat.div_eq_of_lt ha).symm
  | succ T ih =>
    have hrest := ih (accRemainder a0 inc) (accRemainder_lt a0 inc)
    have hfirst := baseline_add_accRemainder a0 inc
    rw [List.range_succ_eq_map, List.map_cons, List.map_map, List.sum_cons, Nat.succ_mul]
    simp only [Function.comp_def, Nat.succ_eq_add_one, Function.iterate_succ_apply, Function.iterate_zero_apply, hrest]
    omega

/-! ### A space query and a frame, by the free space -/

/-- Without draws a space query changes the record of calls alone. -/
theorem query_of_no_draws {e : Env} (h : e.frees = []) : e.query = { e with calls := .tpAvail :: e.calls } := by
  rw [Env.query, consume_of_no_draws e h]

theorem query_space_of_no_draws {e : Env} (h : e.frees = []) : e.query.space = e.space := by
  rw [query_of_no_draws h]
  rfl

/-- A frame takes four bytes (20_memory.md R80, 44_pacing.md R211). -/
theorem afterFrame_space (s : State) : (afterFrame s).env.space.toNat = s.env.space.toNat - 4 := by
  rw [afterFrame, withEnv_env, write_space, write_space]
  omega

section LoopCases

variable {u : State} (j : Nat)

theorem burst_succ_full (h : tpAvail (query u) < 4) : burst (j + 1) u = some (query u) := if_pos h

theorem burst_succ_room (h : 4 ≤ tpAvail (query u)) :
    burst (j + 1) u = burst j (countRecovery (afterFrame (query u))) := by
  simp only [burst, Nat.not_lt.2 h, if_false, putFrame_eq_some (query u) h, Option.bind_some]

theorem drainLoop_succ_full (h : tpAvail (query u) < 4) : drainLoop (j + 1) u = some (query u) := if_pos h

theorem drainLoop_succ_room (h : 4 ≤ tpAvail (query u)) :
    drainLoop (j + 1) u = drainLoop j (afterFrame (query u)) := by
  simp only [drainLoop, Nat.not_lt.2 h, if_false, putFrame_eq_some (query u) h, Option.bind_some]

theorem normalLoop_succ_full (h : tpAvail (query u) < 4) :
    normalLoop (j + 1) u = normalLoop j (countSkip (query u)) := if_neg (Nat.not_le.2 h)

theorem normalLoop_succ_room (h : 4 ≤ tpAvail (query u)) :
    normalLoop (j + 1) u = normalLoop j (afterFrame (query u)) := by
  simp only [normalLoop, h, if_true, putFrame_eq_some (query u) h, Option.bind_some]

end LoopCases

/-! ### The tally of a loop -/

/-- From `s` to `t`, `n` frames were written, `b` of them counted as recovery, and `k` passes were skipped. Where the
consumer has no draw, only the frames change the free space, and after a skip less than a frame is free. -/
structure Tally (s : State) (n b k : Nat) (t : State) : Prop where
  frames : AfterFrames s n t
  diag : t.diag = { s.diag with
    skips := s.diag.skips + BitVec.ofNat 32 k, recovery := s.diag.recovery + BitVec.ofNat 32 b }
  idle : s.env.frees = [] → t.env.frees = []
  room : s.env.frees = [] → t.env.space.toNat + 4 * n = s.env.space.toNat
  skipped : s.env.frees = [] → k ≠ 0 → t.env.space.toNat < 4

namespace Tally

variable {s u : State} {n b k : Nat}

theorem refl (s : State) : Tally s 0 0 0 s where
  frames := AfterFrames.refl s
  diag := by simp
  idle := id
  room _ := rfl
  skipped _ h := absurd rfl h

theorem query (h : Tally s n b k u) : Tally s n b k (query u) where
  frames := h.frames.query
  diag := h.diag
  idle hs := by
    rw [query_env, query_of_no_draws (h.idle hs)]
    exact h.idle hs
  room hs := by
    rw [query_env, query_of_no_draws (h.idle hs)]
    exact h.room hs
  skipped hs := by
    rw [query_env, query_of_no_draws (h.idle hs)]
    exact h.skipped hs

theorem afterFrame (h : Tally s n b k u) (hroom : 4 ≤ tpAvail u) : Tally s (n + 1) b k (afterFrame u) where
  frames := h.frames.afterFrame
  diag := h.diag
  idle := h.idle
  room hs := by
    have hspace := h.room hs
    rw [tpAvail] at hroom
    rw [afterFrame_space]
    omega
  skipped hs hk := absurd (h.skipped hs hk) (Nat.not_lt.2 hroom)

theorem countRecovery (h : Tally s n b k u) : Tally s n (b + 1) k (countRecovery u) where
  frames := h.frames.counted u.acc _ u.tickPending
  diag := by
    simp only [Machine.countRecovery, h.diag, add_ofNat_succ]
  idle := h.idle
  room := h.room
  skipped := h.skipped

theorem countSkip (h : Tally s n b k u) (hfull : tpAvail u < 4) : Tally s n b (k + 1) (countSkip u) where
  frames := h.frames.counted u.acc _ u.tickPending
  diag := by
    simp only [Machine.countSkip, h.diag, add_ofNat_succ]
  idle := h.idle
  room := h.room
  skipped _ _ := hfull

/-- A burst counts each of its frames and ends before its limit only where no frame fits (44_pacing.md R209). -/
theorem burst (h : Tally s n b k u) (j : Nat) :
    ∃ t m, Machine.burst j u = some t ∧ Tally s (n + m) (b + m) k t ∧ m ≤ j ∧ (m = j ∨ tpAvail t < 4) := by
  induction j generalizing u n b with
  | zero => exact ⟨u, 0, rfl, h, le_rfl, .inl rfl⟩
  | succ j ih =>
    rcases Nat.lt_or_ge (tpAvail (Machine.query u)) 4 with hfull | hroom
    · exact ⟨_, 0, burst_succ_full j hfull, h.query, Nat.zero_le _, .inr hfull⟩
    · obtain ⟨t, m, ht, htally, hm, hend⟩ := ih (h.query.afterFrame hroom).countRecovery
      rw [Nat.add_right_comm n, Nat.add_right_comm b] at htally
      exact ⟨t, m + 1, (burst_succ_room j hroom).trans ht, htally, Nat.succ_le_succ hm, hend.imp_left (congrArg _)⟩

/-- A drain ends before its limit only where no frame fits (44_pacing.md R214). -/
theorem drainLoop (h : Tally s n b k u) (j : Nat) :
    ∃ t m, Machine.drainLoop j u = some t ∧ Tally s (n + m) b k t ∧ m ≤ j ∧ (m = j ∨ tpAvail t < 4) := by
  induction j generalizing u n with
  | zero => exact ⟨u, 0, rfl, h, le_rfl, .inl rfl⟩
  | succ j ih =>
    rcases Nat.lt_or_ge (tpAvail (Machine.query u)) 4 with hfull | hroom
    · exact ⟨_, 0, drainLoop_succ_full j hfull, h.query, Nat.zero_le _, .inr hfull⟩
    · obtain ⟨t, m, ht, htally, hm, hend⟩ := ih (h.query.afterFrame hroom)
      rw [Nat.add_right_comm n] at htally
      exact ⟨t, m + 1, (drainLoop_succ_room j hroom).trans ht, htally, Nat.succ_le_succ hm,
        hend.imp_left (congrArg _)⟩

/-- Each pass of the normal loop is a frame or a skip (44_pacing.md R212, R213). -/
theorem normalLoop (h : Tally s n b k u) (j : Nat) :
    ∃ t w x, Machine.normalLoop j u = some t ∧ Tally s (n + w) b (k + x) t ∧ w + x = j := by
  induction j generalizing u n k with
  | zero => exact ⟨u, 0, 0, rfl, h, rfl⟩
  | succ j ih =>
    rcases Nat.lt_or_ge (tpAvail (Machine.query u)) 4 with hfull | hroom
    · obtain ⟨t, w, x, ht, htally, hpasses⟩ := ih (h.query.countSkip hfull)
      rw [Nat.add_right_comm k] at htally
      exact ⟨t, w, x + 1, (normalLoop_succ_full j hfull).trans ht, htally, congrArg (· + 1) hpasses⟩
    · obtain ⟨t, w, x, ht, htally, hpasses⟩ := ih (h.query.afterFrame hroom)
      rw [Nat.add_right_comm n] at htally
      exact ⟨t, w + 1, x, (normalLoop_succ_room j hroom).trans ht, htally, by omega⟩

end Tally

/-- Settles O30: the sweep leaves the transport, and the drain ends at its limit or where no frame fits. -/
theorem pollDrainFillsTransport : Obligations.PollDrainFillsTransport := by
  intro s hinit hpoll hidle
  obtain ⟨t, ht, he⟩ := exec_update_poll_eq s hinit hpoll
  obtain ⟨u, n, hu, htally, hlimit, hend⟩ := (Tally.refl (sweep s)).drainLoop ((sweep s).cap.toNat / 4)
  obtain rfl : u = t := Option.some.inj (hu.symm.trans ht)
  rw [sweep_cap] at hlimit hend
  rw [Nat.zero_add] at htally
  have hroom := htally.room (by rwa [sweep_env])
  rw [sweep_env] at hroom
  rw [tpAvail] at hend
  refine ⟨_, framesFrom (sweep s) n, he, writesFrames_of_sweep htally.frames.written, ?_, ?_⟩
  · rw [framesFrom_length]
    omega
  · rw [framesFrom_length, finish_env]
    omega

/-! ### The tick step as a burst and the normal loop -/

/-- The most frames the burst of a tick can write: none outside an emergency (44_pacing.md R208, R209). -/
def burstLimit (s : State) (f0 : Nat) : Nat :=
  if 100 * f0 > s.cfg.emptyPct * s.cap.toNat then s.cfg.burstFrames else 0

/-- The state of a tick step before its burst: entered, and an emergency counted (44_pacing.md R202 to R208). -/
def burstEntry (s : State) (f0 : Nat) : State :=
  if 100 * f0 > s.cfg.emptyPct * s.cap.toNat then countUnderrun (tickEntry s) else tickEntry s

theorem burstLimit_le (s : State) (f0 : Nat) : burstLimit s f0 ≤ s.cfg.burstFrames := by
  unfold burstLimit
  split <;> omega

theorem burstEntry_env (s : State) (f0 : Nat) : (burstEntry s f0).env = s.env.query := by
  unfold burstEntry
  split <;> rfl

theorem burstEntry_diag (s : State) (f0 : Nat) :
    (burstEntry s f0).diag = { s.diag with
      ticks := s.diag.ticks + 1
      underruns := if 100 * f0 > s.cfg.emptyPct * s.cap.toNat then s.diag.underruns + 1 else s.diag.underruns } := by
  unfold burstEntry
  split <;> rfl

/-- The emergency is the burst from the burst's entry, of no frame where there is none. -/
theorem emergency_tickEntry (s : State) (f0 : Nat) :
    emergency f0 (tickEntry s) = burst (burstLimit s f0) (burstEntry s f0) := by
  by_cases h : 100 * f0 > s.cfg.emptyPct * s.cap.toNat
  · simp only [emergency, isEmergency, burstLimit, burstEntry, tickEntry_cfg, tickEntry_cap, h, decide_true, if_true]
  · simp only [emergency, isEmergency, burstLimit, burstEntry, tickEntry_cfg, tickEntry_cap, h, decide_false,
      Bool.false_eq_true, if_false, burst]

/-- The passes of the normal loop: the baseline corrected by one for the occupancy (44_pacing.md R204 to R207). -/
theorem framesDue_eq (s : State) (f0 : Nat) :
    framesDue s f0 =
      if 100 * ((s.cap.toNat : Int) - f0) > s.cfg.fullPct * s.cap.toNat then (s.acc.toNat + s.accInc.toNat) / 1000 - 1
      else if 100 * ((s.cap.toNat : Int) - f0) < s.cfg.lowPct * s.cap.toNat then
        (s.acc.toNat + s.accInc.toNat) / 1000 + 1
      else (s.acc.toNat + s.accInc.toNat) / 1000 := by
  simp only [framesDue, corrected, isThrottled, isCatchUp, baseline, decide_eq_true_eq]

/-- The channel samples before a tick's burst are those before the tick. -/
theorem writesFrames_of_burstEntry {s t : State} {f0 : Nat} {vs : List Sample}
    (h : WritesFrames (burstEntry s f0) t vs) : WritesFrames s t vs := by
  rwa [WritesFrames, burstEntry_env, channelSamples_query] at h

/-- The accumulator keeps the remainder that the entry leaves (44_pacing.md R204). -/
theorem tickStep_acc {s t : State} (ht : tickStep s = some t) : t.acc = accRemainder s.acc s.accInc :=
  tickStep_keeps (P := fun u => u.acc = accRemainder s.acc s.accInc) (fun _ h => h) (fun _ h => h) (fun _ h => h)
    (fun _ h => h) (fun _ h => h) rfl ht

theorem exec_tick_of_tickStep {s t : State} (ht : tickStep s = some t) : exec .tick s = .next t := by
  simp only [exec, execTick, ht]

/-- A tick step at the occupancy `f0` writes a burst of `b` frames and `w` further ones and skips `k` passes. -/
theorem tickStep_tally {s : State} {f0 : Nat} (hf0 : tpAvail (tickEntry s) = f0) :
    ∃ t b w k, tickStep s = some t ∧ Tally (burstEntry s f0) (b + w) b k t ∧ b ≤ burstLimit s f0 ∧
      w + k = framesDue s f0 ∧ (s.env.frees = [] → b = min (burstLimit s f0) (s.env.space.toNat / 4)) := by
  obtain ⟨u, b, hu, hburst, hlimit, hend⟩ := (Tally.refl (burstEntry s f0)).burst (burstLimit s f0)
  obtain ⟨t, w, k, ht, htally, hpasses⟩ := hburst.normalLoop (framesDue s f0)
  rw [Nat.zero_add, Nat.zero_add] at htally
  refine ⟨t, b, w, k, ?_, by simpa using htally, hlimit, hpasses, fun hidle => ?_⟩
  · simp only [tickStep, hf0, emergency_tickEntry, hu, Option.bind_some, ht]
  · have hroom := hburst.room (by rwa [burstEntry_env, query_of_no_draws hidle])
    rw [burstEntry_env, query_space_of_no_draws hidle] at hroom
    rw [tpAvail] at hend
    omega

/-- Settles O32: the tally of the two loops over the burst's entry, which holds the tick's own counts. -/
theorem tickAccountsForEveryFrame : Obligations.TickAccountsForEveryFrame := by
  intro s f0 base used n
  obtain ⟨t, b, w, k, ht, htally, hlimit, hpasses, -⟩ := tickStep_tally (s := s) (f0 := f0) rfl
  have hdiag := htally.diag
  rw [burstEntry_diag] at hdiag
  refine ⟨t, framesFrom (burstEntry s f0) (b + w), b, w, k, exec_tick_of_tickStep ht,
    writesFrames_of_burstEntry htally.frames.written, framesFrom_length _ _, hpasses.trans (framesDue_eq s f0),
    hlimit.trans (burstLimit_le s f0), fun hcalm => ?_, (tickStep_frame ht).2, tickStep_acc ht, hdiag⟩
  rw [burstLimit, if_neg hcalm] at hlimit
  exact Nat.le_zero.1 hlimit

/-- Settles O33: with only the frames taking space, the normal loop skips only where none fits any more. -/
theorem tickWithIdleConsumerIsExact : Obligations.TickWithIdleConsumerIsExact := by
  intro s hidle f0 base used n b w
  have hquery := query_space_of_no_draws hidle
  obtain ⟨t, b', w', k, ht, htally, -, hpasses, hburst⟩ :=
    tickStep_tally (s := s) (f0 := f0) (congrArg BitVec.toNat hquery)
  have hentry : (burstEntry s f0).env.frees = [] := by rwa [burstEntry_env, query_of_no_draws hidle]
  have hroom := htally.room hentry
  have hskipped := htally.skipped hentry
  have hdiag := htally.diag
  rw [burstEntry_env, hquery] at hroom
  rw [burstEntry_diag] at hdiag
  have hn : w' + k = n := hpasses.trans (framesDue_eq s f0)
  have hb : b' = b := by
    rw [hburst hidle]
    simp only [b, burstLimit]
    split <;> omega
  have hw : w' = w := by
    simp only [w, f0]
    omega
  subst hb hw
  refine ⟨t, framesFrom (burstEntry s f0) (b + w), exec_tick_of_tickStep ht,
    writesFrames_of_burstEntry htally.frames.written, framesFrom_length _ _, ?_, ?_, congrArg Counters.recovery hdiag⟩
  · simp only [f0]
    omega
  · rw [← hn, Nat.add_sub_cancel_left]
    exact congrArg Counters.skips hdiag

/-- Settles O35: of the frames of `tickAccountsForEveryFrame`, the burst is bounded by its limit and the others by the
passes, at most one above a baseline of `acc` at most 999. -/
theorem tickFramesBounded : Obligations.TickFramesBounded := by
  intro s hacc
  obtain ⟨t, vs, b, w, k, he, hwrites, hlen, hpasses, hburst, -⟩ := tickAccountsForEveryFrame s
  refine ⟨t, vs, he, hwrites, ?_⟩
  have hbase : (s.acc.toNat + s.accInc.toNat) / 1000 ≤ (999 + s.accInc.toNat) / 1000 := by omega
  split_ifs at hpasses <;> omega

end Sys2Proof.Machine

/-! ## The system commands: NOP, DIAG_SNAP and INIT -/

namespace Sys2Proof.Machine

/-! ### NOP and DIAG_SNAP -/

/-- Settles O11: NOP makes no check, it only finishes with 0. -/
theorem nopAnswersZero : Obligations.NopAnswersZero := fun _ => rfl

/-- Settles O12: DIAG_SNAP makes no check either, so its one effect is the whole next state. -/
theorem diagSnapCopiesAndClears : Obligations.DiagSnapCopiesAndClears := fun _ => rfl

/-! ### INIT's two shared operations: the engine's reset and the transport's bring-up -/

theorem resetEngine_eq_freshEngine (s : State) : resetEngine s = freshEngine s := rfl

/-- The bring-up call leaves the transport's next answer as it is (log 6). -/
theorem bringUpOk_begin (e : Env) (sr req : Word) : bringUpOk (e.begin sr req) = bringUpOk e := rfl

theorem bringUpOk_eq_false_iff (e : Env) : bringUpOk e = false ↔ e.beginOk = false ∨ e.beginCap.toNat < 4 := by
  rw [← Bool.not_eq_true, bringUpOk_iff, not_and_or, Bool.not_eq_true, not_le]

/-- A transport that comes up takes the capacity it answers (20_memory.md R80). -/
theorem Env.begin_of_beginOk {e : Env} (h : e.beginOk = true) (sr req : Word) :
    e.begin sr req = { e with
      calls := .tpBegin sr req :: e.calls
      tpCap := e.beginCap
      tpFree := e.beginFree.getD e.tpFree } := by
  rw [Env.begin, if_pos h]

/-! ### INIT -/

/-- Settles O13: INIT's last lines on the reset engine, after a bring-up that succeeds. -/
theorem initBringsEngineUp : Obligations.InitBringsEngineUp := by
  intro s hmin hmax hok hcap
  have hrate := (rateLegal_iff s.cfg s.arg0).2 ⟨hmin, hmax⟩
  have hbring := (bringUpOk_begin s.env s.arg0 s.arg1).trans ((bringUpOk_iff s.env).2 ⟨hok, hcap⟩)
  rw [exec_init_ok s hrate hbring, resetEngine_eq_freshEngine, Env.begin_of_beginOk hok]
  rfl

/-- Settles O14: a bad rate ends INIT before the bring-up call, a bring-up that fails ends it after. -/
theorem initFailureLeavesEngineReset : Obligations.InitFailureLeavesEngineReset := by
  intro s
  refine ⟨fun hbad => ?badRate, fun hrange hfail => ?noTransport⟩
  case badRate =>
    have hrate : rateLegal s.cfg s.arg0 = false := by
      rw [← Bool.not_eq_true, rateLegal_iff]
      omega
    rw [exec_init_badRate s hrate, resetEngine_eq_freshEngine]
    rfl
  case noTransport =>
    have hrate := (rateLegal_iff s.cfg s.arg0).2 hrange
    have hbring := (bringUpOk_begin s.env s.arg0 s.arg1).trans ((bringUpOk_eq_false_iff s.env).2 hfail)
    rw [exec_init_noTransport s hrate hbring, resetEngine_eq_freshEngine]
    rfl

end Sys2Proof.Machine

/-! ## Which steps leave the status alone -/

namespace Sys2Proof.Machine

/-- `err` and `result`, the status of the last command (10_state.md R32, 60_exceptions.md R264). -/
def KeepsStatus (s t : State) : Prop := t.err = s.err ∧ t.result = s.result

section Status

variable {s t : State}

theorem LoopFrame.keepsStatus (h : LoopFrame s t) : KeepsStatus s t := ⟨h.field State.err, h.field State.result⟩

theorem regWrite_keepsStatus (off : Offset) (v : Word) (s : State) : KeepsStatus s (regWrite off v s) := by
  obtain ⟨a0, a1, a2, a3, h⟩ := regWrite_operands off v s
  rw [h]
  exact ⟨rfl, rfl⟩

theorem acceptTick_keepsStatus (s : State) : KeepsStatus s (acceptTick s) := by
  by_cases h : s.initOk = true ∧ s.poll = false
  · rw [acceptTick_of_accepting h]
    exact ⟨rfl, rfl⟩
  · rw [acceptTick_of_not_accepting h]
    exact ⟨rfl, rfl⟩

/-- A write that completes and is not to CMD stores an operand or is ignored (20_memory.md R67). -/
theorem perform_wr_keepsStatus {width : Width} {off : Offset} {v : Word} (hcmd : .wr width off v ≠ cmdWrite v)
    (h : perform (.wr width off v) s = .next t) : KeepsStatus s t := by
  cases hacc : accessLegal width off with
  | false => cases (perform_wr_refused hacc v s).symm.trans h
  | true =>
    have hoff : off ≠ cmdOffset := by
      rintro rfl
      obtain ⟨rfl, -⟩ := (accessLegal_iff _ _).1 hacc
      exact hcmd rfl
    cases (perform_wr_register hacc hoff v s).symm.trans h
    exact regWrite_keepsStatus off v s

theorem perform_rd_keepsStatus {width : Width} {off : Offset} (h : perform (.rd width off) s = .next t) :
    KeepsStatus s t := by
  cases hacc : accessLegal width off with
  | false => cases (perform_rd_refused hacc s).symm.trans h
  | true =>
    cases (perform_rd_legal hacc s).symm.trans h
    exact ⟨recordRead_err off s, recordRead_result off s⟩

/-- An action that is no CMD write, cut off or not, and no reset pulse leaves the status (60_exceptions.md R264). -/
theorem perform_keepsStatus {a : Action} (hreset : ∀ k, a ≠ .resetPulse k) (hcmd : ∀ w, a ≠ cmdWrite w)
    (hcut : ∀ w k, a ≠ .cutCommand w k) (h : perform a s = .next t) : KeepsStatus s t := by
  cases a with
  | wr width off v => exact perform_wr_keepsStatus (hcmd v) h
  | rd width off => exact perform_rd_keepsStatus h
  | tickPulse => cases h; exact acceptTick_keepsStatus s
  | resetPulse k => exact absurd rfl (hreset k)
  | cutCommand w k => exact absurd rfl (hcut w k)
  | _ => cases h; exact ⟨rfl, rfl⟩

end Status

/-- Settles O58, by the cases of `step_cases`: a tick step by its frame, the next action by `perform_keepsStatus`. -/
theorem onlyCommandsWriteStatus : Obligations.OnlyCommandsWriteStatus := by
  intro s t hst hnr hkind
  rcases step_cases hst with ⟨-, -, ht⟩ | ⟨k, rest, -, -, hpr, -, -⟩ | ⟨-, -, rfl⟩ | ⟨a, rest, hp, hpr, ha⟩
  · exact (tickStep_frame ht).1.keepsStatus
  · exact absurd ⟨k, rest, hpr⟩ hnr
  · exact ⟨rfl, rfl⟩
  · have hnw : ¬NextWritesStatus s := hkind.resolve_left (by simp [hp])
    have hother := fun hw => hnw ⟨a, rest, hpr, hw⟩
    exact perform_keepsStatus (s := s.withProgram rest) (fun k hk => hother (.inl ⟨k, hk⟩))
      (fun w hw => hother (.inr (.inl ⟨w, hw⟩))) (fun w k hw => hother (.inr (.inr ⟨w, k, hw⟩))) ha

end Sys2Proof.Machine

/-! ## Reset -/

namespace Sys2Proof.Machine

/-! ### The machine right after reset -/

/-- The machine right after reset is one whose engine has just been reset. -/
theorem resetEngine_reset : resetEngine State.reset = State.reset := rfl

/-- Settles O54: a reset engine meets the invariant (`resetEngine_inv`), and at reset the engine is reset. -/
theorem resetMeetsInvariant : Obligations.ResetMeetsInvariant := by
  have hbank : BankSized State.reset := ⟨by decide, by decide, by decide⟩
  have hinv : Inv (resetEngine State.reset) := resetEngine_inv (by decide) hbank (by decide)
  rwa [resetEngine_reset] at hinv

/-! ### The pulse on the reset input -/

/-- The reset block, field by field, around any world (70_reset_and_hazards.md R290). -/
theorem blockReset_withEnv_eq_freshEngine (s : State) (e : Env) :
    (blockReset s).withEnv e =
      { freshEngine s with err := 0, result := 0, arg0 := 0, arg1 := 0, arg2 := 0, arg3 := 0, env := e } := rfl

/-- An operation completes, the record of calls growing by those it makes; a pulse that abandons it after `k` of them
leaves the reset block in the world after these `k`. -/
theorem exec_abandoned (i : Instr) (s : State) (k : Nat) :
    ∃ (t : State) (cs : List PortCall), exec i s = .next t ∧ t.env.calls = cs.reverse ++ s.env.calls ∧
      abandonAfter k s t = (blockReset s).withEnv ((cs.take k).foldl Env.call s.env) := by
  obtain ⟨t, ht⟩ := exec_completes i s
  obtain ⟨cs, hcalls, -, -⟩ := onlyThreeOperationsCallOut i s t ht
  exact ⟨t, cs, ht, hcalls, abandonAfter_eq k hcalls⟩

/-- An illegal command word calls nobody, so wherever the pulse lands it leaves the world as it was. -/
theorem perform_cutCommand_illegal {w : Word} {e : DecodeError} (h : decode w = .error e) (k : Nat) (s : State) :
    perform (.cutCommand w k) s = .next ((blockReset s).withEnv s.env) := by
  have hcalls : (reject (decodeCode e) s).env.calls = ([] : List PortCall).reverse ++ s.env.calls := rfl
  rw [perform_cutCommand w k s _ (issue_error w e s h), abandonAfter_eq k hcalls, List.take_nil, List.foldl_nil]

/-- Settles O9, by where the pulse lands: between steps, in a pending tick's step, in a command, in an illegal word. -/
theorem resetPulseRestoresBlock : Obligations.ResetPulseRestoresBlock := by
  intro s k rest u cut
  have hcut : ∀ e, (blockReset (s.withProgram rest)).withEnv e = cut e :=
    blockReset_withEnv_eq_freshEngine (s.withProgram rest)
  refine ⟨fun hp hpr => ?between, fun hp hpr => ?inTick, fun w hp hpr => ⟨fun i hd => ?inCommand, fun e hd => ?illegal⟩⟩
  case between =>
    rw [step_action s _ rest hp hpr, ← hcut]
    rfl
  case inTick =>
    obtain ⟨t, cs, ht, hcalls, hleft⟩ := exec_abandoned .tick (s.withProgram rest) k
    refine ⟨t, cs, ht, hcalls, ?_⟩
    rw [step_pending_reset s k rest hp hpr, ht, abandoned, hleft, hcut]
    rfl
  case inCommand =>
    obtain ⟨t, cs, ht, hcalls, hleft⟩ := exec_abandoned i (s.withProgram rest) k
    refine ⟨t, cs, ht, hcalls, ?_⟩
    rw [step_action s _ rest hp hpr, perform_cutCommand w k _ t ((issue_ok w i _ hd).trans ht), hleft, hcut]
    rfl
  case illegal =>
    rw [step_action s _ rest hp hpr, perform_cutCommand_illegal hd, hcut]
    rfl

end Sys2Proof.Machine
